-- ==== Sys2Proof/Word.lean ====
section
/-! DEFINITION. The byte and the string of 00_scope.md rule R8: every string of the block (`TX`, `RX`, the string operands,
the frames on the line) is a finite sequence of bytes, index 0 first. -/

namespace Sys2Proof

/-- A byte: 8 bits, a value in 0..255 (R8). -/
abbrev Byte := BitVec 8

/-- A string: a finite sequence of bytes that carries its own length (R8, R53). -/
abbrev Str := List Byte

end Sys2Proof
end

