-- ==== Sys2Proof/Machine/Port.lean ====
section
/-! DEFINITION. What the host and the transport put before the block (10_state.md R10, 30_encoding.md R53, R57, R60):
operations on the command port, strings on the receive line, the timeout event, a new session.
DESIGN CHOICE (notes/assumptions/1.md): the spec passes operands by value beside the 4-bit `OPSEL` and gives them no bits;
the model gives the command port one port for each operand type of R52. -/

namespace Sys2Proof.Machine

/-- One operation as it stands on the command port (R52, R53): the only encoded field is `OPSEL`; an operation reads the
operand ports of its row and no others. -/
structure Command where
  /-- `OPSEL`, 4 bits (R52). -/
  opsel : BitVec 4
  /-- The 8-bit operand: `b`, `v` of `ENC_U8`, `a`, `inst`. -/
  byte  : BitVec 8 := 0
  /-- The 16-bit operand: `v` of `ENC_U16`, `id`. -/
  half  : BitVec 16 := 0
  /-- The 32-bit operand: `v` of `ENC_I32` and `ENC_F32`. -/
  word  : BitVec 32 := 0
  /-- The string operand: `s`, `op`. -/
  str   : Str := []
  /-- The second string operand: `val` of `BUILD_WRITE`. -/
  val   : Str := []
  deriving DecidableEq, Repr

/-- What the decoder reads: an operation on the command port, or a string on the receive line (R57's `RX <- "..."`). -/
inductive PortWord where
  | command (c : Command)
  | line (s : Str)
  deriving DecidableEq, Repr

/-- One thing the host does to the block (R57, 60_exceptions.md R139). -/
inductive HostInput where
  /-- An operation, or a received string. -/
  | word (w : PortWord)
  /-- `RX <- timeout` (60_exceptions.md R132). -/
  | timeout
  /-- A new session, which is a reset of the block (70_reset_and_hazards.md R146). -/
  | newSession
  deriving DecidableEq, Repr

end Sys2Proof.Machine
end

