-- ==== Sys2Proof/Config.lean ====
section
/-! DEFINITION. The parameters of the block, 00_scope.md rule R7: every one of the table has its name here. Those the spec
leaves OPEN or lets a model choose are the fields of `Config`, a record of plain data that `State` carries and no step writes,
so that a statement over every state is a statement over every setting. Those whose value R7 states are constants of the
configuration (10_state.md R20, R21; 30_encoding.md R46; notes/assumptions/4.md): the three widths as the types of their
registers and as numbers, and `CRC_TABLE` in Machine/CrcTable.lean. -/

namespace Sys2Proof

/-- A value of `CRC_WIDTH` bits (R7): the register `CRC` and the entries of `CRC_TABLE`. -/
abbrev CrcWord := BitVec 16

/-- A value of `SEQ_WIDTH` bits (R7): the register `SEQ`. -/
abbrev SeqWord := BitVec 16

/-- A value of `ADDR_WIDTH` bits (R7): the register `ADDR`. -/
abbrev AddrWord := BitVec 8

/-- `CRC_WIDTH` (R7). -/
def Config.crcWidth : Nat := 16

/-- `SEQ_WIDTH` (R7). -/
def Config.seqWidth : Nat := 16

/-- `ADDR_WIDTH` (R7). -/
def Config.addrWidth : Nat := 8

/-- `FLOAT_ORDER` (42_hexfloat.md R86): the order of the four bytes of a binary32 on the wire, one for both directions. -/
inductive FloatOrder where
  | msbFirst
  | lsbFirst
  deriving DecidableEq, Repr

/-- The parameters of R7 that a model takes as configuration fields. -/
structure Config where
  /-- `FLOAT_ORDER` (R86, D8). -/
  floatOrder  : FloatOrder
  /-- `RSP_PREAMBLE`, OPEN (R49, R106, D15); `none` is "unset": any first byte is accepted. -/
  rspPreamble : Option Byte
  /-- `RX_MAX`, OPEN (R30, D29); `none` is "unbounded". -/
  rxMax       : Option Nat
  /-- `ADDR_RESET`, OPEN (R13, R24, D12). -/
  addrReset   : AddrWord
  /-- `OPTOKEN_MIN` (R47, D14). -/
  opTokenMin  : Nat
  /-- `OPTOKEN_MAX` (R47, D14). -/
  opTokenMax  : Nat
  deriving DecidableEq, Repr

/-- The values R7 gives, each parameter at its stated or default value; `ADDR_RESET`, which has none, is 0x00
(DESIGN CHOICE, unsafe: notes/assumptions/5.md; the start state of the spec's programs, 95_test_vectors.md Part 3). -/
def Config.default : Config where
  floatOrder  := .msbFirst
  rspPreamble := none
  rxMax       := none
  addrReset   := 0x00#8
  opTokenMin  := 1
  opTokenMax  := 3

/-- `CRC_INIT` (R7, R64). -/
def Config.crcInit : CrcWord := 0x0000#16

/-- `REQ_PREAMBLE`, the character `#` (R7, R46). -/
def Config.reqPreamble : Byte := 0x23#8

/-- `HDR_LEN` (R7, R103): preamble, two address digits, four sequence digits. -/
def Config.hdrLen : Nat := 7

/-- `CKS_LEN` (R7, R103): the four checksum digits. -/
def Config.cksLen : Nat := 4

end Sys2Proof
end

