-- ==== Sys2Proof/Machine/Digits.lean ====
section
/-! DEFINITION. Characters and hexadecimal digits, 30_encoding.md R40 to R45: the ASCII codes the rules name, `HEXCHAR`,
`HEXVAL`, `HEX_k` and `UNHEX`. Every hexadecimal field of the wire format and every codec operation goes through these. -/

namespace Sys2Proof.Machine

/-- `'#'`, 0x23 (R8). -/
def chHash : Byte := 0x23#8
/-- `'+'`, 0x2B (R8). -/
def chPlus : Byte := 0x2B#8
/-- `'0'`, 0x30 (R8). -/
def ch0 : Byte := 0x30#8
/-- `'9'`, 0x39 (R8). -/
def ch9 : Byte := 0x39#8
/-- `'?'`, 0x3F (R8). -/
def chQuest : Byte := 0x3F#8
/-- `'A'`, 0x41 (R8). -/
def chA : Byte := 0x41#8
/-- `'F'`, 0x46 (R8). -/
def chF : Byte := 0x46#8
/-- `'Z'`, 0x5A (R8). -/
def chZ : Byte := 0x5A#8

/-- A decimal digit character, `'0'..'9'` (R40). -/
def isDecimal (c : Byte) : Bool := decide (ch0 ≤ c) && decide (c ≤ ch9)

/-- `HEXVAL(c)` (R43): the value of an uppercase hexadecimal digit; no value for any other byte, lowercase included. -/
def hexVal (c : Byte) : Option (BitVec 4) :=
  if isDecimal c then some ((c - 0x30#8).setWidth 4)
  else if decide (chA ≤ c) && decide (c ≤ chF) then some ((c - 0x37#8).setWidth 4)
  else none

/-- The alphabet `HEXU` (R40): the bytes that have a `HEXVAL`. -/
def isHexU (c : Byte) : Bool := (hexVal c).isSome

/-- The alphabet `TOK` of operation tokens (R40, R47). -/
def isTok (c : Byte) : Bool :=
  c == chQuest || isDecimal c || (decide (chA ≤ c) && decide (c ≤ chZ))

/-- `HEXCHAR(n)` (R42): the digit character of a 4-bit value, uppercase. -/
def hexChar (n : BitVec 4) : Byte :=
  if n < 10#4 then 0x30#8 + n.setWidth 8 else 0x41#8 + (n.setWidth 8 - 10#8)

/-- `HEX_k(v)` (R44): exactly `k` digits, most significant first, leading zeros kept. -/
def hexDigits : Nat → Nat → Str
  | 0, _ => []
  | k + 1, v => hexDigits k (v / 16) ++ [hexChar (BitVec.ofNat 4 v)]

/-- `HEX_2` of an 8-bit value. -/
def hex2 (v : BitVec 8) : Str := hexDigits 2 v.toNat
/-- `HEX_4` of a 16-bit value. -/
def hex4 (v : BitVec 16) : Str := hexDigits 4 v.toNat
/-- `HEX_8` of a 32-bit value. -/
def hex8 (v : BitVec 32) : Str := hexDigits 8 v.toNat

/-- `UNHEX` with the digits read so far worth `acc`. -/
def unhexFrom : Nat → Str → Option Nat
  | acc, [] => some acc
  | acc, c :: s =>
    match hexVal c with
    | some d => unhexFrom (16 * acc + d.toNat) s
    | none => none

/-- `UNHEX(s)` (R45): the number the digits spell, first digit most significant; no value when a character is outside
`HEXU`. -/
def unhex (s : Str) : Option Nat := unhexFrom 0 s

/-- A field of exactly `k` digits as a `4k`-bit value, or no value: the 2-digit `UNHEX` of R80, `DEC_U16` of
41_hexint.md R78 (`k` = 4) and the 8 digits of R79. -/
def unhexField (k : Nat) (s : Str) : Option (BitVec (4 * k)) :=
  if s.length = k then (unhex s).map (BitVec.ofNat (4 * k)) else none

/-- `DEC_U16` (R78): the internal decoder of the checksum field. -/
def decU16 (s : Str) : Option (BitVec 16) := unhexField 4 s

end Sys2Proof.Machine
end

