-- ==== Sys2Proof/Machine/Operands.lean ====
section
/-! DEFINITION. The checks and transformations of operands: the token and value checks of 43_framer.md R96, the string
operand of the decoders (41_hexint.md R79, 42_hexfloat.md R89), the byte order `ORD` (R86) and the reading of signed
integers at the boundary (41_hexint.md R77). -/

namespace Sys2Proof.Machine

/-- A legal operation token between the given lengths (R47, R96). -/
def tokenOk (lo hi : Nat) (op : Str) : Bool :=
  decide (lo ≤ op.length) && decide (op.length ≤ hi) && op.all isTok

/-- The `val` of `BUILD_WRITE`: exactly 8 characters of `HEXU` (R96). -/
def valueOk (val : Str) : Bool := decide (val.length = 8) && val.all isHexU

/-- What can be wrong with the operand of a decoder, in the order tested (R79, R136). -/
inductive DigitsFault where
  | badLength
  | badDigit
  deriving DecidableEq, Repr

/-- The operand of `DEC_I32` and `DEC_F32` (R79, R89): exactly 8 characters, tested first, all in `HEXU`. -/
def digits32 (s : Str) : Except DigitsFault (BitVec 32) :=
  if s.length ≠ 8 then .error .badLength
  else
    match unhex s with
    | none => .error .badDigit
    | some v => .ok (BitVec.ofNat 32 v)

/-- `ORD(p)` (R86): the pattern as it stands on the wire; its own inverse under either order. -/
def ordBytes (o : FloatOrder) (p : BitVec 32) : BitVec 32 :=
  match o with
  | .msbFirst => p
  | .lsbFirst =>
    p.extractLsb' 0 8 ++ p.extractLsb' 8 8 ++ p.extractLsb' 16 8 ++ p.extractLsb' 24 8

/-- `signed_32(v)` (R8, R77): the integer a 32-bit pattern means to the host. -/
def signed32 (v : BitVec 32) : Int := v.toInt

/-- `unsigned_32(i)` (R8, R77): the operand the host passes for an int32; an integer that is no int32 has none, it is
refused and never truncated (R77). -/
def unsigned32 (i : Int) : Option (BitVec 32) :=
  if -2147483648 ≤ i ∧ i ≤ 2147483647 then some (BitVec.ofInt 32 i) else none

/-- The operand of `ENC_U8` or `ENC_U16` for a natural number: none above the width (R77). -/
def unsignedOperand (w n : Nat) : Option (BitVec w) :=
  if n < 2 ^ w then some (BitVec.ofNat w n) else none

end Sys2Proof.Machine
end

