-- ==== Sys2Proof/Machine/Checksum.lean ====
section
/-! DEFINITION. The function of the Checksum Engine, 40_crc.md R63 to R66: the byte step `STEP` and `checksum`, shared by
the operations of the engine, the framer, the validator and the encoder of frames. -/

namespace Sys2Proof.Machine

/-- `STEP(c, b)` (R65): `trunc_16(c << 8) xor T[c[15:8] xor b]`. -/
def crcStep (c : CrcWord) (b : Byte) : CrcWord :=
  (c <<< 8) ^^^ crcTable (c.extractLsb' 8 8 ^^^ b)

/-- The fold of `STEP` over a string from a running value, index 0 first (R33, R66). -/
def crcFold (c : CrcWord) (s : Str) : CrcWord := s.foldl crcStep c

/-- `checksum(s)` (R66): the fold from `CRC_INIT`. -/
def checksum (s : Str) : CrcWord := crcFold Config.crcInit s

/-- The bit-at-a-time form of the step (R68): xor the byte into the high half, then eight bits of the recurrence. -/
def crcStepBitwise (c : CrcWord) (b : Byte) : CrcWord :=
  crcBits 8 (c ^^^ ((b.setWidth 16) <<< 8))

end Sys2Proof.Machine
end

