-- ==== Sys2Proof/Machine/Wire.lean ====
section
/-! DEFINITION. The strings of the wire format, 30_encoding.md R46 to R51: the pure function `REQ` with its three tails, and
the two response frames. `BUILD_*` and the encoder are both written over these. -/

namespace Sys2Proof.Machine

/-- A string followed by its checksum field (R48, R49, 40_crc.md R70): always four digits. -/
def withChecksum (body : Str) : Str := body ++ hex4 (checksum body)

/-- The body of a request (R48): everything before the checksum field. -/
def requestBody (a : BitVec 8) (q : BitVec 16) (op tail : Str) : Str :=
  Config.reqPreamble :: (hex2 a ++ hex4 q ++ op ++ tail)

/-- `REQ(a, q, op, tail)` (R48). -/
def request (a : BitVec 8) (q : BitVec 16) (op tail : Str) : Str :=
  withChecksum (requestBody a q op tail)

/-- The tail of the bare form (R48, 43_framer.md R99). -/
def bareTail : Str := []

/-- The tail of the read form: parameter id and instance (R48, 43_framer.md R100). -/
def readTail (id : BitVec 16) (inst : BitVec 8) : Str := hex4 id ++ hex2 inst

/-- The tail of the write form: parameter id, instance and the eight digits of the value (R48, 43_framer.md R101). -/
def writeTail (id : BitVec 16) (inst : BitVec 8) (val : Str) : Str := hex4 id ++ hex2 inst ++ val

/-- A data response (R49): preamble `x`, address echo, sequence echo, payload, checksum field. -/
def dataFrame (x : Byte) (a : BitVec 8) (q : BitVec 16) (payload : Str) : Str :=
  withChecksum (x :: (hex2 a ++ hex4 q ++ payload))

/-- An error frame (R50): the first `'+'`, the digits `0` and `d`, and whatever stands before and after. -/
def errorFrame (before : Str) (d : BitVec 4) (after : Str) : Str :=
  before ++ chPlus :: ch0 :: hexChar d :: after

end Sys2Proof.Machine
end

