-- ==== Sys2Proof/Syntax.lean ====
section
/-! DEFINITION. The instructions: one constructor for each of the 21 rows of spec/opcode_table.json, the 16 `OPSEL` codes of
30_encoding.md R52 with their operands by value, and the five frame formats of R48 to R50 with their fields. -/

namespace Sys2Proof

/-- The rows of the operation and frame table. -/
inductive Instr where
  /-- `CRC_CLR` (40_crc.md R64). -/
  | crcClr
  /-- `CRC_UPD b` (40_crc.md R65). -/
  | crcUpd (b : Byte)
  /-- `CRC_RD` (40_crc.md R67). -/
  | crcRd
  /-- `CHECKSUM s` (40_crc.md R66). -/
  | checksum (s : Str)
  /-- `ENC_U8 v` (41_hexint.md R74). -/
  | encU8 (v : BitVec 8)
  /-- `ENC_U16 v` (41_hexint.md R75). -/
  | encU16 (v : BitVec 16)
  /-- `ENC_I32 v` (41_hexint.md R76). -/
  | encI32 (v : BitVec 32)
  /-- `DEC_I32 s` (41_hexint.md R79). -/
  | decI32 (s : Str)
  /-- `ENC_F32 v` (42_hexfloat.md R87). -/
  | encF32 (v : BitVec 32)
  /-- `DEC_F32 s` (42_hexfloat.md R89). -/
  | decF32 (s : Str)
  /-- `BUILD_BARE op` (43_framer.md R99). -/
  | buildBare (op : Str)
  /-- `BUILD_READ op, id, inst` (43_framer.md R100). -/
  | buildRead (op : Str) (id : BitVec 16) (inst : BitVec 8)
  /-- `BUILD_WRITE op, id, inst, val` (43_framer.md R101). -/
  | buildWrite (op : Str) (id : BitVec 16) (inst : BitVec 8) (val : Str)
  /-- `PARSE_RSP` (43_framer.md R102). -/
  | parseRsp
  /-- `SET_ADDR a` (43_framer.md R95). -/
  | setAddr (a : BitVec 8)
  /-- The reserved code 0xF (30_encoding.md R54). -/
  | reservedF
  /-- The frame `# AA SSSS op CCCC` (R48). -/
  | reqBare (a : BitVec 8) (q : BitVec 16) (op : Str)
  /-- The frame `# AA SSSS op IIII NN CCCC` (R48). -/
  | reqRead (a : BitVec 8) (q : BitVec 16) (op : Str) (id : BitVec 16) (inst : BitVec 8)
  /-- The frame `# AA SSSS op IIII NN VVVVVVVV CCCC` (R48). -/
  | reqWrite (a : BitVec 8) (q : BitVec 16) (op : Str) (id : BitVec 16) (inst : BitVec 8) (val : Str)
  /-- The frame `X AA SSSS D..D CCCC` (R49). -/
  | rspData (x : Byte) (a : BitVec 8) (q : BitVec 16) (payload : Str)
  /-- The frame `.. + 0 d ..` (R50): `before` holds no `'+'`. -/
  | rspError (before : Str) (d : BitVec 4) (after : Str)
  deriving DecidableEq, Repr

end Sys2Proof
end

