-- ==== Sys2Proof/WellFormed.lean ====
section
/-! DEFINITION. Which instructions the encodings of 30_encoding.md can write down. An operation is well formed with every
operand: an operand outside its domain is issued and answered `Refused` or `DecodeError` (R55), so nothing is shut out here.
A frame is well formed when it has the format of its row (R48, R49, R50). -/

namespace Sys2Proof

/-- The token of a frame row (R47): characters of `TOK`, in number within the block's token bounds. -/
def frameTokenOk (c : Config) (op : Str) : Bool :=
  Machine.tokenOk c.opTokenMin c.opTokenMax op

/-- What lies between header and checksum field of a string that is a request (R48): a token and one of the three tails.
With the default token bounds these have 1..3, 7..9 and 15..17 characters and exclude one another (R51,
notes/assumptions/2.md). -/
def isRequestPayload (c : Config) (p : Str) : Bool :=
  frameTokenOk c p
  || (decide (6 ≤ p.length) && frameTokenOk c (p.take (p.length - 6)) && (p.drop (p.length - 6)).all Machine.isHexU)
  || (decide (14 ≤ p.length) && frameTokenOk c (p.take (p.length - 14)) && (p.drop (p.length - 14)).all Machine.isHexU)

/-- Well-formedness of an instruction for a block with the given parameters. -/
def wellFormed (c : Config) : Instr → Bool
  | .crcClr => true
  | .crcUpd _ => true
  | .crcRd => true
  | .checksum _ => true
  | .encU8 _ => true
  | .encU16 _ => true
  | .encI32 _ => true
  | .decI32 _ => true
  | .encF32 _ => true
  | .decF32 _ => true
  | .buildBare _ => true
  | .buildRead _ _ _ => true
  | .buildWrite _ _ _ _ => true
  | .parseRsp => true
  | .setAddr _ => true
  | .reservedF => true
  | .reqBare _ _ op => frameTokenOk c op
  | .reqRead _ _ op _ _ => frameTokenOk c op
  | .reqWrite _ _ op _ _ val => frameTokenOk c op && Machine.valueOk val
  -- R49, R104: no `'+'` anywhere before the checksum field; and a string that is a request is the request row's (R112)
  | .rspData x _ _ p =>
    x != Machine.chPlus && p.all (· != Machine.chPlus)
      && !(x == Config.reqPreamble && isRequestPayload c p)
  -- R50, R105: `before` holds no `'+'`, the code is one decimal digit, at least 11 characters in all
  | .rspError before d after =>
    before.all (· != Machine.chPlus) && decide (d < 10#4)
      && decide (11 ≤ before.length + 3 + after.length)

end Sys2Proof
end

