-- ==== Sys2Proof/Decode.lean ====
section
/-! DEFINITION. The decoder, total on every port word, and the encoder. An operation is read from `OPSEL` and the operand
ports of its row (30_encoding.md R52 to R54): every code has its row, so no command is rejected. A string on the receive line
is read as the frame row whose format it has (R48 to R50), or rejected by name. A string that is a request has the format of
a data response too (43_framer.md R112): it is read as the request, the more specific row (DESIGN CHOICE,
notes/assumptions/2.md; both have the same meaning). -/

namespace Sys2Proof

open Machine

/-- Why a string on the receive line is no frame of R48 to R50. -/
inductive Reject where
  /-- Shorter than header and checksum field (R49). -/
  | short
  /-- A `'+'` not followed by `'0'` and a decimal digit (R50). -/
  | badErrorFrame
  /-- A character outside `HEXU` in the header digits or the checksum field (R49). -/
  | badAlphabet
  /-- The checksum field does not spell the checksum of what stands before it (R49). -/
  | badChecksum
  deriving DecidableEq, Repr

/-- The operation on the command port (R52). -/
def decodeCommand (c : Command) : Instr :=
  match c.opsel with
  | 0x0#4 => .crcClr
  | 0x1#4 => .crcUpd c.byte
  | 0x2#4 => .crcRd
  | 0x3#4 => .checksum c.str
  | 0x4#4 => .encU8 c.byte
  | 0x5#4 => .encU16 c.half
  | 0x6#4 => .encI32 c.word
  | 0x7#4 => .decI32 c.str
  | 0x8#4 => .encF32 c.word
  | 0x9#4 => .decF32 c.str
  | 0xA#4 => .buildBare c.str
  | 0xB#4 => .buildRead c.str c.half c.byte
  | 0xC#4 => .buildWrite c.str c.half c.byte c.val
  | 0xD#4 => .parseRsp
  | 0xE#4 => .setAddr c.byte
  | _ => .reservedF

/-- The frame row of a request with header fields `a`, `q` and what lies between header and checksum field (R48). The
length decides the shape and the length of the token (R51, notes/assumptions/2.md). -/
def decodeRequestPayload (c : Config) (a : BitVec 8) (q : BitVec 16) (p : Str) : Option Instr :=
  if frameTokenOk c p then some (.reqBare a q p)
  else
    let opR := p.take (p.length - 6)
    let tailR := p.drop (p.length - 6)
    let opW := p.take (p.length - 14)
    let tailW := p.drop (p.length - 14)
    match frameTokenOk c opR, unhexField 4 (tailR.take 4), unhexField 2 (tailR.drop 4) with
    | true, some id, some inst => some (.reqRead a q opR id inst)
    | _, _, _ =>
      match frameTokenOk c opW && valueOk (tailW.drop 6), unhexField 4 (tailW.take 4),
          unhexField 2 ((tailW.drop 4).take 2) with
      | true, some id, some inst => some (.reqWrite a q opW id inst (tailW.drop 6))
      | _, _, _ => none

/-- A string without `'+'` of at least 11 characters, cut at the fixed distances of 20_memory.md R37. -/
def decodeData (c : Config) (s : Str) : Except Reject Instr :=
  let body := s.take (s.length - Config.cksLen)
  match s, unhexField 2 ((s.drop 1).take 2), unhexField 4 ((s.drop 3).take 4),
      decU16 (s.drop (s.length - Config.cksLen)) with
  | x :: _, some a, some q, some k =>
    if checksum body ≠ k then .error .badChecksum
    else
      let p := body.drop Config.hdrLen
      match if x = Config.reqPreamble then decodeRequestPayload c a q p else none with
      | some i => .ok i
      | none => .ok (.rspData x a q p)
  | _, _, _, _ => .error .badAlphabet

/-- The frame a string on the receive line is (R48 to R50). -/
def decodeLine (c : Config) (s : Str) : Except Reject Instr :=
  if s.length < Config.hdrLen + Config.cksLen then .error .short
  else
    match s.dropWhile (· != chPlus) with
    | [] => decodeData c s
    | _ :: z :: d :: after =>
      if z == ch0 && isDecimal d then
        .ok (.rspError (s.takeWhile (· != chPlus)) ((d - ch0).setWidth 4) after)
      else .error .badErrorFrame
    | _ => .error .badErrorFrame

/-- The instruction of a port word, for a block with the given parameters (its token bounds, R47). -/
def decode (c : Config) : PortWord → Except Reject Instr
  | .command w => .ok (decodeCommand w)
  | .line s => decodeLine c s

/-- The words of a well-formed instruction: the command of an operation (ports its row does not use are zero or empty), the
characters of a frame. -/
def encode : Instr → PortWord
  | .crcClr => .command { opsel := 0x0 }
  | .crcUpd b => .command { opsel := 0x1, byte := b }
  | .crcRd => .command { opsel := 0x2 }
  | .checksum s => .command { opsel := 0x3, str := s }
  | .encU8 v => .command { opsel := 0x4, byte := v }
  | .encU16 v => .command { opsel := 0x5, half := v }
  | .encI32 v => .command { opsel := 0x6, word := v }
  | .decI32 s => .command { opsel := 0x7, str := s }
  | .encF32 v => .command { opsel := 0x8, word := v }
  | .decF32 s => .command { opsel := 0x9, str := s }
  | .buildBare op => .command { opsel := 0xA, str := op }
  | .buildRead op id inst => .command { opsel := 0xB, str := op, half := id, byte := inst }
  | .buildWrite op id inst val => .command { opsel := 0xC, str := op, half := id, byte := inst, val := val }
  | .parseRsp => .command { opsel := 0xD }
  | .setAddr a => .command { opsel := 0xE, byte := a }
  | .reservedF => .command { opsel := 0xF }
  | .reqBare a q op => .line (request a q op bareTail)
  | .reqRead a q op id inst => .line (request a q op (readTail id inst))
  | .reqWrite a q op id inst val => .line (request a q op (writeTail id inst val))
  | .rspData x a q p => .line (dataFrame x a q p)
  | .rspError before d after => .line (errorFrame before d after)

/-- The bytes of a number, the least significant first: how the opcode table numbers the bits of a frame. -/
def bytesOf : Nat → Nat → Str
  | 0, _ => []
  | k + 1, w => BitVec.ofNat 8 w :: bytesOf k (w / 256)

/-- The port word whose table bits are `w` (notes/assumptions/13.md): the rows of `OPSEL` have the values 0..15 and the frame
rows give byte 0 of a line, so a number below 16 is the `OPSEL` of a command with zero and empty operands, and any other is
a line of `nbits / 8` characters, byte 0 first. -/
def tableWord (nbits w : Nat) : PortWord :=
  if w < 16 then .command { opsel := BitVec.ofNat 4 w }
  else .line (bytesOf (nbits / 8) w)

/-- What the decoder of the block of `State.reset` reads from the table word `w`; `none` where it rejects. -/
def decodeTableWord (nbits w : Nat) : Option Instr :=
  match decode Config.default (tableWord nbits w) with
  | .ok i => some i
  | .error _ => none

end Sys2Proof
end

