-- ==== Sys2Proof/Machine/State.lean ====
section
/-! DEFINITION. The state of the block, 10_state.md R11 to R17 and R23, as plain data; the outcomes of 60_exceptions.md R128;
the reasons a step can stop; the state after reset (70_reset_and_hazards.md R145). -/

namespace Sys2Proof.Machine

/-- The sub-causes of `FramingError` (60_exceptions.md R128, R129). -/
inductive FramingCause where
  | short
  | badErrorFrame
  | badPreamble
  | badAlphabet
  deriving DecidableEq, Repr

/-- The sub-causes of `DecodeError` (60_exceptions.md R128, R133); `unknownStatus` is the host function `DEC_STATUS`'s. -/
inductive DecodeCause where
  | badLength
  | badDigit
  | unknownStatus
  deriving DecidableEq, Repr

/-- The reasons of `Refused` (60_exceptions.md R128, R134). -/
inductive RefusedReason where
  | badToken
  | badValue
  | reservedOp
  deriving DecidableEq, Repr

/-- `RESULT` (10_state.md R14, 60_exceptions.md R128): the outcome of the last operation with what it carries. The code of
`DeviceError` is in `ERRCODE`, the recomputed value of `ChecksumMismatch` in `CRC`. -/
inductive Result where
  | ok
  | framingError (cause : FramingCause)
  | checksumMismatch
  | deviceError
  | decodeError (cause : DecodeCause)
  | transportTimeout
  | refused (reason : RefusedReason)
  deriving DecidableEq, Repr

/-- `VALUE` (10_state.md R16): nothing, a 16-bit number, a 32-bit pattern or a string. -/
inductive Value where
  | none
  | u16 (v : BitVec 16)
  | u32 (v : BitVec 32)
  | str (s : Str)
  deriving DecidableEq, Repr

/-- The state of the block, with the parameters it was made with and what the host has still to put before it. -/
structure State where
  /-- `CRC` (R11). -/
  crc     : CrcWord
  /-- `SEQ` (R12). -/
  seq     : SeqWord
  /-- `ADDR` (R13). -/
  addr    : AddrWord
  /-- `RESULT` (R14). -/
  result  : Result
  /-- `ERRCODE` (R15), the stored bits; the host reads them through `State.readErrcode`. -/
  errcode : BitVec 4
  /-- `VALUE` (R16), as stored; the host reads it through `State.readValue`. -/
  value   : Value
  /-- `TX`, the last request built (20_memory.md R29). -/
  tx      : Str
  /-- `RX`, the last raw response (20_memory.md R30). -/
  rx      : Str
  /-- The parameters of the block (00_scope.md R7, R20), written by no step (notes/assumptions/4.md). -/
  cfg     : Config
  /-- The model's own field: what the host has issued and the block has not taken yet, oldest first (R10, R38;
  notes/assumptions/3.md). -/
  inputs  : List HostInput
  deriving DecidableEq, Repr

/-- The machine stops with a fault: never. No state of the block exists from which it stops accepting operations
(93_implementation_defined.md Part 1, 60_exceptions.md R138), so this type has no constructor. Safe. -/
inductive Fault where
  deriving DecidableEq, Repr

/-- The machine gives no meaning. -/
inductive Refusal where
  /-- Raised by `exec` for an instruction without a meaning; no arm raises it now. Safe. -/
  | notModelled (mnemonic : String)
  /-- Raised by the load of `RX` when the received string is longer than a configured `RX_MAX` (92_eei_decisions.md D29:
  "A model with a bound should refuse longer strings"). Never raised with the default, unbounded. Safe. -/
  | rxOverlong
  deriving DecidableEq, Repr

/-- The block just made with the given parameters (10_state.md R23, 70_reset_and_hazards.md R145). `ERRCODE` reads as no
value while `RESULT` is `OK`; the 0 behind it is DESIGN CHOICE (notes/assumptions/6.md). -/
def State.ofConfig (c : Config) : State where
  crc     := Config.crcInit
  seq     := 0x0000#16
  addr    := c.addrReset
  result  := .ok
  errcode := 0
  value   := .none
  tx      := []
  rx      := []
  cfg     := c
  inputs  := []

/-- The machine right after reset: the block made with R7's values, nothing issued yet. -/
def State.reset : State := State.ofConfig Config.default

end Sys2Proof.Machine
end

