-- ==== Sys2Proof/Machine/Ops.lean ====
section
/-! DEFINITION. The named operations over the state: one update per register; ending an operation with `OK` and a value, or
with another outcome (00_scope.md R8, 60_exceptions.md R127, R137: this is the block's taking of an exception, and by R138
there is nothing to return from); the two host events on `RX` (60_exceptions.md R132, 20_memory.md R30); a new session. -/

namespace Sys2Proof.Machine

/-- `CRC <- v` (R11). -/
def State.setCrc (s : State) (v : CrcWord) : State := { s with crc := v }
/-- `SEQ <- v` (R12). -/
def State.setSeq (s : State) (v : SeqWord) : State := { s with seq := v }
/-- `ADDR <- v` (R13). -/
def State.setAddr (s : State) (v : AddrWord) : State := { s with addr := v }
/-- `ERRCODE <- v` (R15). -/
def State.setErrcode (s : State) (v : BitVec 4) : State := { s with errcode := v }
/-- `TX <- v`, the whole string (R29). -/
def State.setTx (s : State) (v : Str) : State := { s with tx := v }
/-- `RX <- v`, the whole string (R30). -/
def State.setRx (s : State) (v : Str) : State := { s with rx := v }
/-- The host's list after some of it has been taken. -/
def State.setInputs (s : State) (v : List HostInput) : State := { s with inputs := v }

/-- `return v` (R8): the outcome `OK` with a value; `Value.none` for an operation without one (R16). -/
def State.succeed (s : State) (v : Value) : State := { s with result := .ok, value := v }

/-- `raise E` and `refuse(reason)` (R8, R127, R137): the outcome is written to `RESULT`, nothing else changes, and the
operation is over. `VALUE` keeps what it holds and reads as no value (R16, notes/assumptions/7.md). -/
def State.raise (s : State) (r : Result) : State := { s with result := r }

/-- A string of length `n` fits `RX` (R30, `RX_MAX`). -/
def rxFits (c : Config) (n : Nat) : Bool :=
  match c.rxMax with
  | none => true
  | some m => decide (n ≤ m)

/-- The host event `RX <- "..."` (R30, R57, R60): the whole receive string is replaced, exactly as the transport returned
it, and nothing else changes. A string over a configured `RX_MAX` is refused (D29, notes/assumptions/10.md). -/
def loadRx (l : Str) (s : State) : Host.Outcome State Fault Refusal :=
  if rxFits s.cfg l.length then .next (s.setRx l) else .refused .rxOverlong

/-- The host event `RX <- timeout` (60_exceptions.md R132, 43_framer.md R111): its whole effect. -/
def rxTimeout (s : State) : State := (s.setRx []).raise .transportTimeout

/-- A new session is a reset of the block (70_reset_and_hazards.md R146): every register and string as when the block is
made, the same parameters; what the host has issued after it stays pending (notes/assumptions/12.md). -/
def newSession (s : State) : State := (State.ofConfig s.cfg).setInputs s.inputs

/-- One step after another: the second runs on the state the first leaves, unless the first stopped. -/
def andThen (o : Host.Outcome State Fault Refusal) (f : State → Host.Outcome State Fault Refusal) :
    Host.Outcome State Fault Refusal :=
  match o with
  | .next s => f s
  | .fault r => .fault r
  | .refused r => .refused r

end Sys2Proof.Machine
end

