-- ==== Sys2Proof/Machine/Crc.lean ====
section
/-! DEFINITION. The operations of the Checksum Engine, 40_crc.md R64 to R67. None of them can fail (R72). -/

namespace Sys2Proof.Machine

/-- `CRC_CLR` (R64). -/
def execCrcClr (s : State) : Host.Outcome State Fault Refusal :=
  .next ((s.setCrc Config.crcInit).succeed .none)

/-- `CRC_UPD b` (R65). -/
def execCrcUpd (b : Byte) (s : State) : Host.Outcome State Fault Refusal :=
  .next ((s.setCrc (crcStep s.crc b)).succeed .none)

/-- `CRC_RD` (R67): `CRC` is returned as it stands and is unchanged. -/
def execCrcRd (s : State) : Host.Outcome State Fault Refusal :=
  .next (s.succeed (.u16 s.crc))

/-- `CHECKSUM x` (R66): from `CRC_INIT`, whatever `CRC` held; `CRC` is left holding the result. -/
def execChecksum (x : Str) (s : State) : Host.Outcome State Fault Refusal :=
  .next ((s.setCrc (checksum x)).succeed (.u16 (checksum x)))

end Sys2Proof.Machine
end

