-- ==== Sys2Proof/Machine/Framer.lean ====
section
/-! DEFINITION. The Message Framer, 43_framer.md R95 to R110: `SET_ADDR`, the three `BUILD_*` operations over one common body,
and `PARSE_RSP`, whose pure part is DOC0's `parse_response`. -/

namespace Sys2Proof.Machine

/-- The common body of the `BUILD_*` operations after their checks (R98): the frame carries `ADDR` and the `SEQ` current at
build time, and `SEQ` advances, wrapping. -/
def buildRequest (op tail : Str) (s : State) : State :=
  let body := requestBody s.addr s.seq op tail
  ((((s.setCrc (checksum body)).setTx (request s.addr s.seq op tail)).setSeq (s.seq + 1#16)).succeed
    (.str (request s.addr s.seq op tail)))

/-- The operand check on the token common to the three, made before any state is written (R96). -/
def tokenLegal (c : Config) (op : Str) : Bool := tokenOk c.opTokenMin c.opTokenMax op

/-- `SET_ADDR a` (R95). -/
def execSetAddr (a : BitVec 8) (s : State) : Host.Outcome State Fault Refusal :=
  .next ((s.setAddr a).succeed .none)

/-- `BUILD_BARE op` (R96, R99). -/
def execBuildBare (op : Str) (s : State) : Host.Outcome State Fault Refusal :=
  if tokenLegal s.cfg op then .next (buildRequest op bareTail s)
  else .next (s.raise (.refused .badToken))

/-- `BUILD_READ op, id, inst` (R96, R100). -/
def execBuildRead (op : Str) (id : BitVec 16) (inst : BitVec 8) (s : State) :
    Host.Outcome State Fault Refusal :=
  if tokenLegal s.cfg op then .next (buildRequest op (readTail id inst) s)
  else .next (s.raise (.refused .badToken))

/-- `BUILD_WRITE op, id, inst, val` (R96, R101): the token is checked first (60_exceptions.md R136). -/
def execBuildWrite (op : Str) (id : BitVec 16) (inst : BitVec 8) (val : Str) (s : State) :
    Host.Outcome State Fault Refusal :=
  if tokenLegal s.cfg op then
    if valueOk val then .next (buildRequest op (writeTail id inst val) s)
    else .next (s.raise (.refused .badValue))
  else .next (s.raise (.refused .badToken))

/-- What `parse_response` finds (R102, DOC0's `Result<payload, DeviceError>`). -/
inductive Parsed where
  /-- Step 1, 2 or 3. -/
  | framing (cause : FramingCause)
  /-- Step 2: an error frame with its code. -/
  | device (code : BitVec 4)
  /-- Step 4: the recomputed checksum, which the field does not spell. -/
  | mismatch (crc : BitVec 16)
  /-- Step 5: the recomputed checksum and the payload. -/
  | payload (crc : BitVec 16) (p : Str)
  deriving DecidableEq, Repr

/-- Step 2 on what follows the first `'+'` (R104, R105). -/
def parseMarker : Str → Parsed
  | z :: d :: _ =>
    if z == ch0 && isDecimal d then .device ((d - ch0).setWidth 4) else .framing .badErrorFrame
  | _ => .framing .badErrorFrame

/-- The preamble test of step 3: passed unless `RSP_PREAMBLE` is set and differs (R106). -/
def preambleOk (pre : Option Byte) (rx : Str) : Bool :=
  match pre with
  | none => true
  | some x => rx.head? == some x

/-- The six header digits, indices 1..6 (R37). -/
def headerDigits (rx : Str) : Str := (rx.drop 1).take (Config.hdrLen - 1)

/-- `RX[0 : n-4]` (R102). -/
def beforeChecksum (rx : Str) : Str := rx.take (rx.length - Config.cksLen)

/-- `RX[n-4 : n]` (R102). -/
def checksumField (rx : Str) : Str := rx.drop (rx.length - Config.cksLen)

/-- Steps 3 to 5 (R106, R107, R108): `DEC_U16` has no value exactly where the checksum field is not four digits. -/
def parseData (pre : Option Byte) (rx : Str) : Parsed :=
  if preambleOk pre rx then
    if (headerDigits rx).all isHexU then
      match decU16 (checksumField rx) with
      | none => .framing .badAlphabet
      | some k =>
        let crc := checksum (beforeChecksum rx)
        if crc = k then .payload crc ((beforeChecksum rx).drop Config.hdrLen) else .mismatch crc
    else .framing .badAlphabet
  else .framing .badPreamble

/-- `parse_response(raw)` (R102): the five steps in their normative order (60_exceptions.md R136). -/
def parseResponse (pre : Option Byte) (rx : Str) : Parsed :=
  if rx.length < Config.hdrLen + Config.cksLen then .framing .short
  else
    match rx.dropWhile (· != chPlus) with
    | [] => parseData pre rx
    | _ :: after => parseMarker after

/-- What `PARSE_RSP` writes for what it finds (R102: `ERRCODE` in step 2, `CRC` from step 4 on, `VALUE` in step 5). -/
def finishParse (r : Parsed) (s : State) : State :=
  match r with
  | .framing c => s.raise (.framingError c)
  | .device d => (s.setErrcode d).raise .deviceError
  | .mismatch crc => (s.setCrc crc).raise .checksumMismatch
  | .payload crc p => (s.setCrc crc).succeed (.str p)

/-- `PARSE_RSP` (R102). -/
def execParseRsp (s : State) : Host.Outcome State Fault Refusal :=
  .next (finishParse (parseResponse s.cfg.rspPreamble s.rx) s)

end Sys2Proof.Machine
end

