-- ==== Sys2Proof/Machine/Frames.lean ====
section
/-! DEFINITION. The frame rows of the table, 30_encoding.md R48 to R50. A frame reaches the block in one way only: the host
loads the string the transport returned into `RX` (20_memory.md R25, R30, R60), to be parsed by a later `PARSE_RSP`. That is
the meaning of each frame row, a request on the receive line being the loop-back of 43_framer.md R112 (DEDUCED,
notes/assumptions/2.md). -/

namespace Sys2Proof.Machine

/-- A bare request on the receive line (R48, R112). -/
def execReqBare (a : BitVec 8) (q : BitVec 16) (op : Str) (s : State) :
    Host.Outcome State Fault Refusal :=
  loadRx (request a q op bareTail) s

/-- A read request on the receive line (R48, R112). -/
def execReqRead (a : BitVec 8) (q : BitVec 16) (op : Str) (id : BitVec 16) (inst : BitVec 8) (s : State) :
    Host.Outcome State Fault Refusal :=
  loadRx (request a q op (readTail id inst)) s

/-- A write request on the receive line (R48, R112). -/
def execReqWrite (a : BitVec 8) (q : BitVec 16) (op : Str) (id : BitVec 16) (inst : BitVec 8) (val : Str)
    (s : State) : Host.Outcome State Fault Refusal :=
  loadRx (request a q op (writeTail id inst val)) s

/-- A data response on the receive line (R49, R30). -/
def execRspData (x : Byte) (a : BitVec 8) (q : BitVec 16) (payload : Str) (s : State) :
    Host.Outcome State Fault Refusal :=
  loadRx (dataFrame x a q payload) s

/-- An error frame on the receive line (R50, R30). -/
def execRspError (before : Str) (d : BitVec 4) (after : Str) (s : State) :
    Host.Outcome State Fault Refusal :=
  loadRx (errorFrame before d after) s

end Sys2Proof.Machine
end

