-- ==== Sys2Proof/Machine/HexInt.lean ====
section
/-! DEFINITION. The hex-ASCII integer codec, 41_hexint.md R74 to R79. The encoders are total; the decoder ends with
`DecodeError` on any string that is not exactly 8 characters of `HEXU`. Only `RESULT` and `VALUE` are written (R73). -/

namespace Sys2Proof.Machine

/-- The `DecodeError` of a bad decoder operand (R79, R128). -/
def decodeFailure : DigitsFault → Result
  | .badLength => .decodeError .badLength
  | .badDigit => .decodeError .badDigit

/-- The end of a decoder: the 32-bit pattern, or the error (R79, R89). -/
def finishDecode (r : Except DigitsFault (BitVec 32)) (s : State) : State :=
  match r with
  | .ok v => s.succeed (.u32 v)
  | .error e => s.raise (decodeFailure e)

/-- `ENC_U8 v` (R74). -/
def execEncU8 (v : BitVec 8) (s : State) : Host.Outcome State Fault Refusal :=
  .next (s.succeed (.str (hex2 v)))

/-- `ENC_U16 v` (R75). -/
def execEncU16 (v : BitVec 16) (s : State) : Host.Outcome State Fault Refusal :=
  .next (s.succeed (.str (hex4 v)))

/-- `ENC_I32 v` (R76). -/
def execEncI32 (v : BitVec 32) (s : State) : Host.Outcome State Fault Refusal :=
  .next (s.succeed (.str (hex8 v)))

/-- `DEC_I32 x` (R79). -/
def execDecI32 (x : Str) (s : State) : Host.Outcome State Fault Refusal :=
  .next (finishDecode (digits32 x) s)

end Sys2Proof.Machine
end

