-- ==== Sys2Proof/Machine/HexFloat.lean ====
section
/-! DEFINITION. The hex-ASCII float codec, 42_hexfloat.md R85 to R92: a float crosses the block as its 32-bit pattern, in the
byte order `FLOAT_ORDER`, the same for both directions. -/

namespace Sys2Proof.Machine

/-- `ENC_F32 v` (R87). -/
def execEncF32 (v : BitVec 32) (s : State) : Host.Outcome State Fault Refusal :=
  .next (s.succeed (.str (hex8 (ordBytes s.cfg.floatOrder v))))

/-- `DEC_F32 x` (R89). -/
def execDecF32 (x : Str) (s : State) : Host.Outcome State Fault Refusal :=
  .next (finishDecode ((digits32 x).map (ordBytes s.cfg.floatOrder)) s)

end Sys2Proof.Machine
end

