-- ==== Sys2Proof/Machine/Reserved.lean ====
section
/-! DEFINITION. The reserved operation code, 30_encoding.md R54. -/

namespace Sys2Proof.Machine

/-- `OPSEL` 0xF (R54): `RESULT` becomes `Refused`, nothing else changes. -/
def execReservedF (s : State) : Host.Outcome State Fault Refusal :=
  .next (s.raise (.refused .reservedOp))

end Sys2Proof.Machine
end

