-- ==== Sys2Proof/Machine/Dispatch.lean ====
section
/-! DEFINITION. The meaning of every instruction: one arm per row of spec/opcode_table.json. -/

namespace Sys2Proof.Machine

def exec (i : Instr) (s : State) : Host.Outcome State Fault Refusal :=
  match i with
  | .crcClr => Sys2Proof.Machine.execCrcClr s
  | .crcUpd b => Sys2Proof.Machine.execCrcUpd b s
  | .crcRd => Sys2Proof.Machine.execCrcRd s
  | .checksum x => Sys2Proof.Machine.execChecksum x s
  | .encU8 v => Sys2Proof.Machine.execEncU8 v s
  | .encU16 v => Sys2Proof.Machine.execEncU16 v s
  | .encI32 v => Sys2Proof.Machine.execEncI32 v s
  | .decI32 x => Sys2Proof.Machine.execDecI32 x s
  | .encF32 v => Sys2Proof.Machine.execEncF32 v s
  | .decF32 x => Sys2Proof.Machine.execDecF32 x s
  | .buildBare op => Sys2Proof.Machine.execBuildBare op s
  | .buildRead op id inst => Sys2Proof.Machine.execBuildRead op id inst s
  | .buildWrite op id inst val => Sys2Proof.Machine.execBuildWrite op id inst val s
  | .parseRsp => Sys2Proof.Machine.execParseRsp s
  | .setAddr a => Sys2Proof.Machine.execSetAddr a s
  | .reservedF => Sys2Proof.Machine.execReservedF s
  | .reqBare a q op => Sys2Proof.Machine.execReqBare a q op s
  | .reqRead a q op id inst => Sys2Proof.Machine.execReqRead a q op id inst s
  | .reqWrite a q op id inst val => Sys2Proof.Machine.execReqWrite a q op id inst val s
  | .rspData x a q p => Sys2Proof.Machine.execRspData x a q p s
  | .rspError before d after => Sys2Proof.Machine.execRspError before d after s

end Sys2Proof.Machine
end

