-- ==== Sys2Proof/Machine/Fetch.lean ====
section
/-! DEFINITION. What one step does with the host's next input (10_state.md R10, 20_memory.md R38): the block has no program
counter and fetches nothing of its own (R18), it takes the oldest operation or event the host has issued. -/

namespace Sys2Proof.Machine

/-- A port word: the instruction it decodes to is executed. A received string that is no frame of R48 to R50 is loaded into
`RX` all the same (R30: any bytes, any length). -/
def runWord (w : PortWord) (s : State) : Host.Outcome State Fault Refusal :=
  match w with
  | .command c => exec (decodeCommand c) s
  | .line l =>
    match decodeLine s.cfg l with
    | .ok i => exec i s
    | .error _ => loadRx l s

/-- One input of the host (R57, R139, R146). -/
def takeInput (e : HostInput) (s : State) : Host.Outcome State Fault Refusal :=
  match e with
  | .word w => runWord w s
  | .timeout => .next (rxTimeout s)
  | .newSession => .next (newSession s)

end Sys2Proof.Machine
end

