-- ==== Sys2Proof/Machine/Step.lean ====
section
/-! DEFINITION. One step of the machine: the oldest pending input is taken and done, completely, before the next
(20_memory.md R38 item 1). With no input pending the block holds no work and nothing changes (70_reset_and_hazards.md R160). -/

namespace Sys2Proof.Machine

/-- One step. -/
def step (s : State) : Host.Outcome State Fault Refusal :=
  match s.inputs with
  | [] => .next s
  | e :: rest => takeInput e (s.setInputs rest)

/-- `s` with the instruction of table word `w` as the host's next input, so that the next step decodes and runs it
(notes/assumptions/3.md says how a program comes to run). -/
def State.withFetchWord (s : State) (nbits w : Nat) : State :=
  s.setInputs (.word (tableWord nbits w) :: s.inputs)

end Sys2Proof.Machine
end

