-- ==== Sys2Proof/Machine/Flags.lean ====
section
/-! DEFINITION. The block has no condition codes and no flags (10_state.md R19). The one status a later step can test is
`RESULT`: here are its 3-bit codes (60_exceptions.md R128) and the two registers that can be read only under one outcome
(10_state.md R15, R16). -/

namespace Sys2Proof.Machine

/-- The 3-bit code of an outcome (R128); 7 is unused. -/
def resultCode : Result → BitVec 3
  | .ok => 0
  | .framingError _ => 1
  | .checksumMismatch => 2
  | .deviceError => 3
  | .decodeError _ => 4
  | .transportTimeout => 5
  | .refused _ => 6

/-- `VALUE` as the host reads it: no value unless `RESULT` is `OK`, and none after an operation that returns nothing (R16). -/
def State.readValue (s : State) : Option Value :=
  match s.result, s.value with
  | .ok, .u16 v => some (.u16 v)
  | .ok, .u32 v => some (.u32 v)
  | .ok, .str v => some (.str v)
  | _, _ => none

/-- `ERRCODE` as the host reads it: no value unless `RESULT` is `DeviceError` (R15). -/
def State.readErrcode (s : State) : Option (BitVec 4) :=
  match s.result with
  | .deviceError => some s.errcode
  | _ => none

end Sys2Proof.Machine
end

