-- ==== Sys2Proof/Machine/Session.lean ====
section
/-! DEFINITION. The host at the boundary, 45_session.md R113 to R123: the Device Session is no part of the block's datapath
(00_scope.md R5) and none of this runs in `step`. Its functions have no `OPSEL`; they are written here as what R117 says they
are, compositions of the block's operations with the string or the timeout the transport gives back. -/

namespace Sys2Proof.Machine

/-- The three known stability states (R120). -/
inductive Status where
  | off
  | unstable
  | stable
  deriving DecidableEq, Repr

/-- `DEC_STATUS` (R120): an unrecognised code is a decode error, not a silent default. -/
def decStatus (v : BitVec 32) : Except DecodeCause Status :=
  if v = 0#32 then .ok .off
  else if v = 1#32 then .ok .unstable
  else if v = 2#32 then .ok .stable
  else .error .unknownStatus

/-- The three value kinds (R118). -/
inductive ValueKind where
  | int32
  | float32
  | raw
  deriving DecidableEq, Repr

/-- The value of a write, by kind (R117 step 1). -/
inductive WriteValue where
  | int32 (v : BitVec 32)
  | float32 (v : BitVec 32)
  deriving DecidableEq, Repr

/-- What a logical operation asks (R117): a bare operation, a read or a write. -/
inductive LogicalRequest where
  | bare (op : Str)
  | read (op : Str) (id : BitVec 16) (inst : BitVec 8)
  | write (op : Str) (id : BitVec 16) (inst : BitVec 8) (v : WriteValue)
  deriving DecidableEq, Repr

/-- The string in `VALUE`, which the host passes on to the next operation; empty where `VALUE` reads as no string. -/
def valueText (s : State) : Str :=
  match s.readValue with
  | some (.str t) => t
  | _ => []

/-- Go on only while no operation has failed: "any failure ends the operation with that failure" (R117). -/
def ifOk (f : State → Host.Outcome State Fault Refusal) (s : State) : Host.Outcome State Fault Refusal :=
  if s.result = .ok then f s else .next s

/-- The encoder of a write's value (R117 step 1). -/
def encodeValue (v : WriteValue) (s : State) : Host.Outcome State Fault Refusal :=
  match v with
  | .int32 v => exec (.encI32 v) s
  | .float32 v => exec (.encF32 v) s

/-- Steps 1 and 2 of a logical operation (R117): the value of a write is encoded, and the request is built. -/
def issueRequest (r : LogicalRequest) (s : State) : Host.Outcome State Fault Refusal :=
  match r with
  | .bare op => exec (.buildBare op) s
  | .read op id inst => exec (.buildRead op id inst) s
  | .write op id inst v =>
    andThen (encodeValue v s) (fun s1 => exec (.buildWrite op id inst (valueText s1)) s1)

/-- Step 4 (R117): the transport's answer to `receive_line()`, a string or a timeout. -/
def deliver (reply : Option Str) (s : State) : Host.Outcome State Fault Refusal :=
  match reply with
  | some l => loadRx l s
  | none => .next (rxTimeout s)

/-- Step 6 (R117): the payload in `VALUE` is decoded by its declared kind; a raw payload is the result itself. -/
def decodePayload (kind : ValueKind) (s : State) : Host.Outcome State Fault Refusal :=
  match kind with
  | .int32 => exec (.decI32 (valueText s)) s
  | .float32 => exec (.decF32 (valueText s)) s
  | .raw => .next s

/-- One logical operation (R117): build, send, receive, parse, decode; the first failure ends it. Sending touches nothing in
the block (R38). The caller's outcome is `RESULT`, `ERRCODE` and `VALUE` of the state it leaves. -/
def runLogical (r : LogicalRequest) (kind : ValueKind) (reply : Option Str) (s : State) :
    Host.Outcome State Fault Refusal :=
  andThen (issueRequest r s) (ifOk fun s1 =>
    andThen (deliver reply s1) (ifOk fun s2 =>
      andThen (exec .parseRsp s2) (ifOk (decodePayload kind))))

/-- The kind as which the session takes the payload of a write's answer. DESIGN CHOICE (notes/assumptions/19.md): the spec does
not say what the session does with it (R117, N7); the model takes it as it is received, undecoded, any payload accepted. -/
def writeAnswerKind : ValueKind := .raw

/-- The connect sequence (R121; 70_reset_and_hazards.md R147 items 3 and 4) on a block that has been reset, after the
transport's handshake: the address, two configuration writes, then "identify", whose payload is the result. The requests' parameter ids, values and tokens are arguments: the spec gives none
(R119, N12). A failure ends the sequence (DESIGN CHOICE, notes/assumptions/17.md), and the payloads of the two writes' answers
are taken as `writeAnswerKind` says (DESIGN CHOICE, notes/assumptions/19.md). -/
def connectSequence (a : BitVec 8) (w1 w2 : LogicalRequest) (identify : Str) (r1 r2 r3 : Option Str) (s : State) :
    Host.Outcome State Fault Refusal :=
  andThen (exec (.setAddr a) s) fun s0 =>
    andThen (runLogical w1 writeAnswerKind r1 s0) (ifOk fun s1 =>
      andThen (runLogical w2 writeAnswerKind r2 s1) (ifOk fun s2 =>
        runLogical (.bare identify) .raw r3 s2))

/-! ### The static table of the logical operations (R118, R119) -/

/-- The logical operations DOC0 lists (R119). -/
inductive LogicalName where
  | objectTemperature
  | sinkTemperature
  | targetTemperatureRead
  | targetTemperatureWrite
  | outputCurrent
  | outputVoltage
  | stabilityState
  | controlEnable
  | controlDisable
  | stop
  | identify
  | disableFlashPersistence
  | setRampStartPoint
  | unnamed108
  deriving DecidableEq, Repr

/-- The direction of a logical operation (R119). -/
inductive Direction where
  | read
  | write
  | bare
  deriving DecidableEq, Repr

/-- A row of R119's table; `none` where an entry is not given. -/
structure CatalogueRow where
  direction  : Direction
  kind       : Option ValueKind
  /-- The number decoded goes through the enumeration of R120. -/
  enumerated : Bool := false
  /-- The operation token. -/
  token      : Option Str := none
  paramId    : Option (BitVec 16) := none
  inst       : Option (BitVec 8) := none
  /-- The value of a write that has a fixed one. -/
  value      : Option (BitVec 32) := none
  deriving DecidableEq, Repr

/-- The table as the host has it: "a model takes this table as a parameter of the host" (R119). -/
abbrev Catalogue := LogicalName → CatalogueRow

/-- The read token `?VR` (R119). -/
def readToken : Str := [0x3F#8, 0x56#8, 0x52#8]

/-- R119's table, with every number and token DOC0 gives and no other ("must not fill the gaps"). -/
def catalogue : Catalogue
  | .objectTemperature =>
    { direction := .read, kind := some .float32, token := some readToken, paramId := some 1000, inst := some 1 }
  | .sinkTemperature => { direction := .read, kind := some .float32, token := some readToken }
  | .targetTemperatureRead => { direction := .read, kind := some .float32, token := some readToken }
  | .targetTemperatureWrite => { direction := .write, kind := some .float32 }
  | .outputCurrent => { direction := .read, kind := some .float32, token := some readToken }
  | .outputVoltage => { direction := .read, kind := some .float32, token := some readToken }
  | .stabilityState => { direction := .read, kind := some .int32, enumerated := true, token := some readToken }
  | .controlEnable => { direction := .write, kind := some .int32, value := some 1 }
  | .controlDisable => { direction := .write, kind := some .int32, value := some 0 }
  | .stop => { direction := .bare, kind := some .raw }
  | .identify => { direction := .bare, kind := some .raw }
  | .disableFlashPersistence => { direction := .write, kind := none }
  | .setRampStartPoint => { direction := .write, kind := none }
  | .unnamed108 => { direction := .write, kind := some .int32, paramId := some 108, value := some 1 }

/-- An entry that is given stands as it is given. -/
def keepsEntry {α : Type} [DecidableEq α] (given row : Option α) : Bool :=
  match given with
  | none => true
  | some x => decide (row = some x)

/-- A row that keeps every entry another one gives. -/
def CatalogueRow.completes (row given : CatalogueRow) : Bool :=
  decide (row.direction = given.direction) && decide (row.enumerated = given.enumerated)
    && keepsEntry given.kind row.kind && keepsEntry given.token row.token && keepsEntry given.paramId row.paramId
    && keepsEntry given.inst row.inst && keepsEntry given.value row.value

/-- A host's table that keeps every entry of R119's: the gaps are filled as the host has them, or stay open. -/
def Catalogue.Completes (t : Catalogue) : Prop := ∀ n, (t n).completes (catalogue n) = true

/-- The value a write carries: the row's own where it has one, else the caller's; none for a kind no encoder serves (R117). -/
def CatalogueRow.writeValue (row : CatalogueRow) (v : Option (BitVec 32)) : Option WriteValue :=
  match row.kind, row.value.or v with
  | some .int32, some x => some (.int32 x)
  | some .float32, some x => some (.float32 x)
  | _, _ => none

/-- The request of a row with the caller's value, for a write that needs one; none where the table has a gap. -/
def CatalogueRow.request (row : CatalogueRow) (v : Option (BitVec 32)) : Option LogicalRequest :=
  match row.direction, row.token, row.paramId, row.inst with
  | .bare, some op, _, _ => some (.bare op)
  | .read, some op, some id, some inst => some (.read op id inst)
  | .write, some op, some id, some inst => (row.writeValue v).map (.write op id inst)
  | _, _, _, _ => none

/-- The kind the payload of the answer is decoded by (R117): the row's, and for a write `writeAnswerKind`. -/
def CatalogueRow.answerKind (row : CatalogueRow) : Option ValueKind :=
  match row.direction with
  | .write => some writeAnswerKind
  | .read => row.kind
  | .bare => row.kind

/-! ### What the caller gets (R117, R118, R120, R123) -/

/-- The value of a logical operation that succeeds. -/
inductive Answer where
  | int32 (v : BitVec 32)
  | float32 (v : BitVec 32)
  | text (s : Str)
  | status (x : Status)
  deriving DecidableEq, Repr

/-- The typed failure of one that does not: the outcome, with the device's code where it is `DeviceError`. -/
structure Failure where
  result : Result
  code   : Option (BitVec 4)
  deriving DecidableEq, Repr

/-- The number of an int32 operation, through the enumeration where its row says so (R119, R120). -/
def int32Answer (enumerated : Bool) (v : BitVec 32) : Except Failure Answer :=
  if enumerated then
    match decStatus v with
    | .ok x => .ok (.status x)
    | .error e => .error { result := .decodeError e, code := none }
  else .ok (.int32 v)

/-- The caller's answer, read from the block a logical operation leaves. -/
def answerOf (kind : ValueKind) (enumerated : Bool) (s : State) : Except Failure Answer :=
  match kind, s.readValue with
  | .int32, some (.u32 v) => int32Answer enumerated v
  | .float32, some (.u32 v) => .ok (.float32 v)
  | .raw, some (.str t) => .ok (.text t)
  | _, _ => .error { result := s.result, code := s.readErrcode }

/-! ### The session (R113, R114) -/

/-- The states of a session (R114). -/
inductive Phase where
  | disconnected
  | connected
  deriving DecidableEq, Repr

/-- A session: its phase and its block, whose `ADDR` and `SEQ` are the session's address and counter (R113). The injected
transport is what each operation is given as its answer. -/
structure Session where
  phase : Phase
  block : State
  deriving DecidableEq, Repr

/-- A session over a block just made, before its transport's handshake (R114). -/
def Session.initial (c : Config) : Session where
  phase := .disconnected
  block := State.ofConfig c

/-- A session after something its block has done. -/
def inPhase (p : Phase) (o : Host.Outcome State Fault Refusal) : Host.Outcome Session Fault Refusal :=
  match o with
  | .next s => .next { phase := p, block := s }
  | .fault r => .fault r
  | .refused r => .refused r

/-- Connect (R114, R121), only from `Disconnected` and in the order of 70_reset_and_hazards.md R147: the block is reset (item 1),
the transport's handshake is done (item 2), and a successful one enters `Connected` and runs the connect sequence with the
host's table (items 3 and 4). A handshake that fails leaves the session `Disconnected`, its block reset (DEDUCED from that
order, notes/assumptions/17.md). DESIGN CHOICE (the same entry): the session stays `Connected` whatever the sequence ends with;
a table that does not give the three requests cannot be connected with. -/
def sessionConnect (t : Catalogue) (a : BitVec 8) (handshake : Bool) (r1 r2 r3 : Option Str) (x : Session) :
    Option (Host.Outcome Session Fault Refusal) :=
  match x.phase with
  | .connected => none
  | .disconnected =>
    match (t .disableFlashPersistence).request none, (t .setRampStartPoint).request none, (t .identify).token with
    | some w1, some w2, some op =>
      let block := newSession x.block
      some (if handshake then inPhase .connected (connectSequence a w1 w2 op r1 r2 r3 block)
        else .next { phase := .disconnected, block := block })
    | _, _, _ => none

/-- A logical operation of a session (R114): only while `Connected`; after close "no further use permitted" (R158). -/
def sessionLogical (x : Session) (r : LogicalRequest) (kind : ValueKind) (reply : Option Str) :
    Option (Host.Outcome Session Fault Refusal) :=
  match x.phase with
  | .connected => some (inPhase .connected (runLogical r kind reply x.block))
  | .disconnected => none

/-- A named operation of the instrument (R113, R119), with the caller's value for a write that needs one. -/
def sessionCall (t : Catalogue) (n : LogicalName) (v : Option (BitVec 32)) (reply : Option Str) (x : Session) :
    Option (Host.Outcome Session Fault Refusal) :=
  match (t n).request v, (t n).answerKind with
  | some r, some kind => sessionLogical x r kind reply
  | _, _ => none

/-- What the caller of a named operation gets, read from the session it leaves. -/
def sessionAnswer (t : Catalogue) (n : LogicalName) (x : Session) : Option (Except Failure Answer) :=
  (t n).answerKind.map fun kind => answerOf kind (t n).enumerated x.block

/-- Close (R114): back to `Disconnected`; the block has no closed state (R158). -/
def sessionClose (x : Session) : Session := { x with phase := .disconnected }

end Sys2Proof.Machine
end

