-- ==== Sys2Proof/Safety.lean ====
section
/-! DEFINITION. What claims call safe: the invariant of the block's state, and the duties of the host (45_session.md R115,
R116; 70_reset_and_hazards.md R147, R148), which the block itself does not enforce. -/

namespace Sys2Proof.Safety

open Machine

/-- `TX` holds nothing or a request (20_memory.md R29, 30_encoding.md R48): it begins with `#`, the six digits of address and
sequence number follow, between them and the checksum field stand a token and one of the three tails, and the last four
characters are the digits of the checksum of all the characters before them (40_crc.md R70). Every byte is ASCII below 0x80
and none is `'+'`, and the length is between the shortest bare and the longest write request. -/
def txOk (c : Config) (tx : Str) : Bool :=
  tx == [] ||
    (tx.head? == some Config.reqPreamble
      && (headerDigits tx).all isHexU
      && isRequestPayload c ((beforeChecksum tx).drop Config.hdrLen)
      && tx.all (fun b => decide (b < 0x80#8) && b != chPlus)
      && decide (11 + c.opTokenMin ≤ tx.length) && decide (tx.length ≤ 25 + c.opTokenMax)
      && checksumField tx == hex4 (checksum (beforeChecksum tx)))

/-- The invariant: `TX` is nothing or a request (R29), `RX` fits `RX_MAX` (R30), `ERRCODE` is one of 0..9 (R15), and `RESULT`
is no outcome of the host's own `DEC_STATUS` (60_exceptions.md R133, R135). -/
def Inv (s : State) : Prop :=
  txOk s.cfg s.tx = true ∧ rxFits s.cfg s.rx.length = true ∧ s.errcode < 10#4
    ∧ s.result ≠ .decodeError .unknownStatus

/-- Where the logical operation under way stands: no request in flight, one built and not answered, one answered and not yet
parsed (R116, R148). -/
inductive Flight where
  | idle
  | awaiting
  | answered
  deriving DecidableEq, Repr

/-- What the host's duties turn on, within one session. -/
structure Duty where
  /-- `SET_ADDR` has been issued (R115). -/
  addressed : Bool
  /-- A `BUILD_*` has been issued, whatever its outcome (R115). -/
  built     : Bool
  /-- The request in flight (R116). -/
  flight    : Flight
  deriving DecidableEq, Repr

/-- A session just made. -/
def Duty.fresh : Duty := { addressed := false, built := false, flight := .idle }

/-- For a `BUILD_*`, whether its operands pass R96; none for every other row. -/
def buildLegal (c : Config) : Instr → Option Bool
  | .buildBare op => some (tokenLegal c op)
  | .buildRead op _ _ => some (tokenLegal c op)
  | .buildWrite op _ _ val => some (tokenLegal c op && valueOk val)
  | .crcClr => none
  | .crcUpd _ => none
  | .crcRd => none
  | .checksum _ => none
  | .encU8 _ => none
  | .encU16 _ => none
  | .encI32 _ => none
  | .decI32 _ => none
  | .encF32 _ => none
  | .decF32 _ => none
  | .parseRsp => none
  | .setAddr _ => none
  | .reservedF => none
  | .reqBare _ _ _ => none
  | .reqRead _ _ _ _ _ => none
  | .reqWrite _ _ _ _ _ _ => none
  | .rspData _ _ _ _ => none
  | .rspError _ _ _ => none

/-- Whether an operation builds a request: a `BUILD_*` whose operands pass R96. -/
def builds (c : Config) (i : Instr) : Bool := buildLegal c i == some true

/-- `SET_ADDR a` under the duties: the target's address, once in a session and before its first `BUILD_*` (R115, R147). -/
def dutySetAddr (target a : BitVec 8) (d : Duty) : Option Duty :=
  if a = target ∧ d.addressed = false ∧ d.built = false then some { d with addressed := true } else none

/-- A `BUILD_*` under the duties: after `SET_ADDR`, "unless `ADDR_RESET` already is that address" (R115, R147 item 3), and with
none in flight (R116). A refused one ends its logical operation at once (R117). -/
def dutyBuild (c : Config) (target : BitVec 8) (legal : Bool) (d : Duty) : Option Duty :=
  if (d.addressed = true ∨ c.addrReset = target) ∧ d.flight = .idle then
    some { d with built := true, flight := if legal then .awaiting else .idle }
  else none

/-- `PARSE_RSP` under the duties: it ends the logical operation whose response has been received (R116), and no other. -/
def dutyParse (d : Duty) : Duty := { d with flight := if d.flight = .answered then .idle else d.flight }

/-- One operation under the duties; `none` is a breach. -/
def dutyOperation (c : Config) (target : BitVec 8) (d : Duty) (i : Instr) : Option Duty :=
  match i with
  | .setAddr a => dutySetAddr target a d
  | .parseRsp => some (dutyParse d)
  | i =>
    match buildLegal c i with
    | some legal => dutyBuild c target legal d
    | none => some d

/-- What the transport gives back, a response (`next` is `answered`) or a timeout (`next` is `idle`): exactly one for a request
in flight (R116). -/
def dutyReceive (next : Flight) (d : Duty) : Option Duty :=
  match d.flight with
  | .awaiting => some { d with flight := next }
  | .answered => none
  | .idle => some d

/-- One input under the duties of a host whose device has the address `target`. A new session starts the duties afresh:
begun while a request is in flight, it drops that request and is no breach. DESIGN CHOICE (notes/assumptions/18.md): R116, R148
and R122 do not say what becomes of a request in flight at a new session. -/
def dutyInput (c : Config) (target : BitVec 8) (d : Duty) : HostInput → Option Duty
  | .word (.command w) => dutyOperation c target d (decodeCommand w)
  | .word (.line _) => dutyReceive .answered d
  | .timeout => dutyReceive .idle d
  | .newSession => some Duty.fresh

/-- A host that keeps its duties over a list of inputs, from where it stands. -/
def obeys (c : Config) (target : BitVec 8) : Duty → List HostInput → Bool
  | _, [] => true
  | d, e :: rest =>
    match dutyInput c target d e with
    | none => false
    | some d' => obeys c target d' rest

end Sys2Proof.Safety
end

