-- ==== Sys2Proof/Certificates/Slice0/Obligations.lean ====
section
/-! DEFINITION. The statements for the provers, each about the machine and none about a program. A docstring names the rules a
statement formalises and, where it rests on a choice of the model's, the log entry. -/

open Sys2Proof Sys2Proof.Machine

/-! ### Reset and the table -/

/-- 10_state.md R23: the state of the block just made, for every setting of the parameters. -/
def Obligations.ResetHasStatedValues : Prop :=
  ∀ c : Config,
    (State.ofConfig c).seq = 0x0000#16 ∧ (State.ofConfig c).crc = 0x0000#16 ∧ (State.ofConfig c).addr = c.addrReset ∧
    (State.ofConfig c).result = .ok ∧ (State.ofConfig c).readErrcode = none ∧ (State.ofConfig c).readValue = none ∧
    (State.ofConfig c).tx = [] ∧ (State.ofConfig c).rx = [] ∧ ∀ i, crcTable i = crcTableEntry i

/-- 20_memory.md R28: the table is linear over xor and its entries are pairwise distinct. -/
def Obligations.CrcTableLinearDistinct : Prop :=
  (∀ a b : Byte, crcTable (a ^^^ b) = crcTable a ^^^ crcTable b) ∧
  (∀ a b : Byte, crcTable a = crcTable b → a = b)

/-! ### The Checksum Engine -/

/-- 40_crc.md R68: the table step is the bit-at-a-time form for every running value and byte, and the check value. -/
def Obligations.TableStepIsBitSerial : Prop :=
  (∀ (c : BitVec 16) (b : Byte), crcStep c b = crcStepBitwise c b) ∧
  checksum [0x31#8, 0x32#8, 0x33#8, 0x34#8, 0x35#8, 0x36#8, 0x37#8, 0x38#8, 0x39#8] = 0x31C3#16

/-- 40_crc.md R65: `CRC_UPD b`. -/
def Obligations.CrcUpdFoldsOneByte : Prop :=
  ∀ (b : Byte) (s : State),
    exec (.crcUpd b) s =
      .next { s with crc := (s.crc <<< 8) ^^^ crcTable ((s.crc >>> 8).setWidth 8 ^^^ b), result := .ok, value := .none }

/-- 40_crc.md R64, R67: `CRC_CLR` and `CRC_RD`; clearing twice is the same as once, and a running value that has been read
can be gone on with. -/
def Obligations.CrcClearAndRead : Prop :=
  (∀ s : State, exec .crcClr s = .next { s with crc := 0x0000#16, result := .ok, value := .none }) ∧
  (∀ s : State, exec .crcRd s = .next { s with result := .ok, value := .u16 s.crc }) ∧
  (∀ s : State, andThen (exec .crcClr s) (exec .crcClr) = exec .crcClr s) ∧
  (∀ (b : Byte) (s : State), andThen (exec .crcRd s) (exec (.crcUpd b)) = exec (.crcUpd b) s)

/-- 40_crc.md R66: `CHECKSUM x` equals clearing, feeding the bytes in order and reading; it does not depend on the `CRC`
before; the empty string, strings of zero bytes and leading zero bytes. -/
def Obligations.ChecksumIsStreamed : Prop :=
  (∀ (x : Str) (s : State),
    exec (.checksum x) s =
        .next { s with crc := x.foldl crcStep 0x0000#16, result := .ok, value := .u16 (x.foldl crcStep 0x0000#16) } ∧
    exec (.checksum x) s =
      andThen (x.foldl (fun o b => andThen o (exec (.crcUpd b))) (exec .crcClr s)) (exec .crcRd)) ∧
  (∀ (x : Str) (c : BitVec 16) (s : State), exec (.checksum x) { s with crc := c } = exec (.checksum x) s) ∧
  (∀ n : Nat, checksum (List.replicate n 0x00#8) = 0x0000#16) ∧
  (∀ x : Str, checksum (0x00#8 :: x) = checksum x)

/-- 40_crc.md R69 items 2 and 3: streaming over an append, and linearity over strings of equal length. -/
def Obligations.ChecksumAppendsAndIsLinear : Prop :=
  (∀ x y : Str, checksum (x ++ y) = y.foldl crcStep (checksum x)) ∧
  (∀ x y : Str, x.length = y.length →
    checksum (List.zipWith (fun a b => a ^^^ b) x y) = checksum x ^^^ checksum y)

/-- 40_crc.md R69 item 4: feeding a zero byte is a bijection of the running values. -/
def Obligations.ZeroByteStepBijective : Prop :=
  Function.Bijective (fun c : BitVec 16 => crcStep c 0x00#8)

/-- 40_crc.md R69 item 4, for a whole byte: changing one byte of a string always changes its checksum. -/
def Obligations.AlteredByteAltersChecksum : Prop :=
  ∀ (x y : Str) (b b' : Byte), b ≠ b' → checksum (x ++ b :: y) ≠ checksum (x ++ b' :: y)

/-- 10_state.md R11: no operation but `CRC_UPD` and `CRC_RD` depends on the value `CRC` held; what the others do with the
old value is to leave it or to overwrite it. -/
def Obligations.OldCrcOnlyReadByUpdAndRd : Prop :=
  ∀ (i : Instr) (c : BitVec 16) (s t : State), (∀ b, i ≠ .crcUpd b) → i ≠ .crcRd → exec i s = .next t →
    ∃ u, exec i { s with crc := c } = .next u ∧ { u with crc := t.crc } = t ∧
      (u.crc = t.crc ∨ (u.crc = c ∧ t.crc = s.crc))

/-! ### The Value Codec -/

/-- 41_hexint.md R74, R75, R76: the integer encoders, digit by digit, the most significant first. -/
def Obligations.IntegerEncodersRenderDigits : Prop :=
  (∀ (v : BitVec 8) (s : State),
    let digits := [hexChar (v.extractLsb' 4 4), hexChar (v.extractLsb' 0 4)]
    exec (.encU8 v) s = .next { s with result := .ok, value := .str digits }) ∧
  (∀ (v : BitVec 16) (s : State),
    let digits := [hexChar (v.extractLsb' 12 4), hexChar (v.extractLsb' 8 4), hexChar (v.extractLsb' 4 4),
      hexChar (v.extractLsb' 0 4)]
    exec (.encU16 v) s = .next { s with result := .ok, value := .str digits }) ∧
  (∀ (v : BitVec 32) (s : State),
    let digits := [hexChar (v.extractLsb' 28 4), hexChar (v.extractLsb' 24 4), hexChar (v.extractLsb' 20 4),
      hexChar (v.extractLsb' 16 4), hexChar (v.extractLsb' 12 4), hexChar (v.extractLsb' 8 4),
      hexChar (v.extractLsb' 4 4), hexChar (v.extractLsb' 0 4)]
    exec (.encI32 v) s = .next { s with result := .ok, value := .str digits })

/-- 42_hexfloat.md R87 with the `ORD` of R86: the float encoder under either byte order. -/
def Obligations.FloatEncoderRendersOrderedBytes : Prop :=
  ∀ (b3 b2 b1 b0 : Byte) (s : State),
    (s.cfg.floatOrder = .msbFirst →
      exec (.encF32 (b3 ++ b2 ++ b1 ++ b0)) s =
        .next { s with result := .ok, value := .str (hex2 b3 ++ hex2 b2 ++ hex2 b1 ++ hex2 b0) }) ∧
    (s.cfg.floatOrder = .lsbFirst →
      exec (.encF32 (b3 ++ b2 ++ b1 ++ b0)) s =
        .next { s with result := .ok, value := .str (hex2 b0 ++ hex2 b1 ++ hex2 b2 ++ hex2 b3) })

/-- 41_hexint.md R82, 42_hexfloat.md R88: every encoder's result has its fixed width and is in `HEXU`. -/
def Obligations.EncodedFieldsHaveFixedWidth : Prop :=
  ∀ (i : Instr) (n : Nat) (s t : State),
    ((∃ v, i = .encU8 v ∧ n = 2) ∨ (∃ v, i = .encU16 v ∧ n = 4) ∨ (∃ v, i = .encI32 v ∧ n = 8) ∨ (∃ v, i = .encF32 v ∧ n = 8)) →
    exec i s = .next t →
    ∃ x, t.readValue = some (.str x) ∧ x.length = n ∧
      ∀ c ∈ x, (0x30#8 ≤ c ∧ c ≤ 0x39#8) ∨ (0x41#8 ≤ c ∧ c ≤ 0x46#8)

/-- 30_encoding.md R45: `UNHEX` and `HEX_k` are inverse to each other. -/
def Obligations.UnhexInvertsHex : Prop :=
  (∀ k v : Nat, v < 16 ^ k → unhex (hexDigits k v) = some v) ∧
  (∀ (x : Str) (v : Nat), unhex x = some v → v < 16 ^ x.length ∧ hexDigits x.length v = x)

/-- 41_hexint.md R79: `DEC_I32`, every string. -/
def Obligations.DecI32ReadsEightDigits : Prop :=
  ∀ (x : Str) (s : State),
    (x.length ≠ 8 → exec (.decI32 x) s = .next { s with result := .decodeError .badLength }) ∧
    (x.length = 8 → (∃ c ∈ x, ¬((0x30#8 ≤ c ∧ c ≤ 0x39#8) ∨ (0x41#8 ≤ c ∧ c ≤ 0x46#8))) →
      exec (.decI32 x) s = .next { s with result := .decodeError .badDigit }) ∧
    (x.length = 8 → (∀ c ∈ x, (0x30#8 ≤ c ∧ c ≤ 0x39#8) ∨ (0x41#8 ≤ c ∧ c ≤ 0x46#8)) →
      let number := x.foldl (fun n c => 16 * n + (if c ≤ 0x39#8 then c.toNat - 0x30 else c.toNat - 0x37)) 0
      number < 4294967296 ∧
        exec (.decI32 x) s = .next { s with result := .ok, value := .u32 (BitVec.ofNat 32 number) })

/-- 42_hexfloat.md R89: `DEC_F32`, every string, under either byte order. -/
def Obligations.DecF32ReadsOrderedBytes : Prop :=
  ∀ (x : Str) (s : State),
    (x.length ≠ 8 → exec (.decF32 x) s = .next { s with result := .decodeError .badLength }) ∧
    (x.length = 8 → (∃ c ∈ x, isHexU c = false) →
      exec (.decF32 x) s = .next { s with result := .decodeError .badDigit }) ∧
    (x.length = 8 → (∀ c ∈ x, isHexU c = true) →
      ∃ a b c d : Byte, x = hex2 a ++ hex2 b ++ hex2 c ++ hex2 d ∧
        (s.cfg.floatOrder = .msbFirst →
          exec (.decF32 x) s = .next { s with result := .ok, value := .u32 (a ++ b ++ c ++ d) }) ∧
        (s.cfg.floatOrder = .lsbFirst →
          exec (.decF32 x) s = .next { s with result := .ok, value := .u32 (d ++ c ++ b ++ a) }))

/-- 41_hexint.md R80 with the signed reading of R77: the integer round trips, by the operations. -/
def Obligations.IntegerRoundTrips : Prop :=
  (∀ (n : Int) (s : State), -2147483648 ≤ n → n ≤ 2147483647 →
    ∃ v t, unsigned32 n = some v ∧ andThen (exec (.encI32 v) s) (fun u => exec (.decI32 (valueText u)) u) = .next t ∧
      t.readValue = some (.u32 v) ∧ signed32 v = n) ∧
  (∀ (x : Str) (s t : State), exec (.decI32 x) s = .next t → t.result = .ok →
    ∃ v u, t.readValue = some (.u32 v) ∧ exec (.encI32 v) t = .next u ∧ u.readValue = some (.str x)) ∧
  (∀ v : BitVec 16, decU16 (hex4 v) = some v) ∧ (∀ v : BitVec 8, unhexField 2 (hex2 v) = some v) ∧
  (∀ (x : Str) (v : BitVec 16), decU16 x = some v → hex4 v = x) ∧
  (∀ (x : Str) (v : BitVec 8), unhexField 2 x = some v → hex2 v = x)

/-- 42_hexfloat.md R90: the float round trips for every pattern, finite or not, under either byte order. -/
def Obligations.FloatRoundTrips : Prop :=
  (∀ (v : BitVec 32) (s : State),
    ∃ t, andThen (exec (.encF32 v) s) (fun u => exec (.decF32 (valueText u)) u) = .next t ∧
      t.readValue = some (.u32 v)) ∧
  (∀ (x : Str) (s t : State), exec (.decF32 x) s = .next t → t.result = .ok →
    ∃ v u, t.readValue = some (.u32 v) ∧ exec (.encF32 v) t = .next u ∧ u.readValue = some (.str x)) ∧
  (∀ (o : FloatOrder) (v : BitVec 32), ordBytes o (ordBytes o v) = v)

/-! ### The Message Framer: building -/

/-- 43_framer.md R95: `SET_ADDR a`; every other instruction leaves `ADDR` as it is, and every request built, in each of the
three forms, starts with the digits of `ADDR`: so after `SET_ADDR 0x02` every request starts `#02`. -/
def Obligations.SetAddrFixesRequestAddress : Prop :=
  (∀ (a : BitVec 8) (s : State), exec (.setAddr a) s = .next { s with addr := a, result := .ok, value := .none }) ∧
  (∀ (i : Instr) (s t : State), (∀ a, i ≠ .setAddr a) → exec i s = .next t → t.addr = s.addr) ∧
  (∀ (i : Instr) (s t : State),
    ((∃ op, i = .buildBare op) ∨ (∃ op id inst, i = .buildRead op id inst) ∨
      (∃ op id inst val, i = .buildWrite op id inst val)) →
    exec i s = .next t → t.result = .ok → t.tx.take 3 = 0x23#8 :: hex2 s.addr)

/-- 43_framer.md R98, R99, R100, R101: the three `BUILD_*` operations on legal operands. -/
def Obligations.BuildAssemblesRequest : Prop :=
  ∀ (op : Str) (id : BitVec 16) (inst : BitVec 8) (val : Str) (s : State),
    s.cfg.opTokenMin ≤ op.length → op.length ≤ s.cfg.opTokenMax → (∀ c ∈ op, isTok c = true) →
    (let body := 0x23#8 :: (hex2 s.addr ++ hex4 s.seq ++ op)
     exec (.buildBare op) s =
       .next { s with crc := checksum body, tx := body ++ hex4 (checksum body), seq := s.seq + 1,
                      result := .ok, value := .str (body ++ hex4 (checksum body)) }) ∧
    (let body := 0x23#8 :: (hex2 s.addr ++ hex4 s.seq ++ op ++ hex4 id ++ hex2 inst)
     exec (.buildRead op id inst) s =
       .next { s with crc := checksum body, tx := body ++ hex4 (checksum body), seq := s.seq + 1,
                      result := .ok, value := .str (body ++ hex4 (checksum body)) }) ∧
    (val.length = 8 → (∀ c ∈ val, isHexU c = true) →
      let body := 0x23#8 :: (hex2 s.addr ++ hex4 s.seq ++ op ++ hex4 id ++ hex2 inst ++ val)
      exec (.buildWrite op id inst val) s =
        .next { s with crc := checksum body, tx := body ++ hex4 (checksum body), seq := s.seq + 1,
                       result := .ok, value := .str (body ++ hex4 (checksum body)) })

/-- 43_framer.md R96: the operand checks; on `Refused` nothing but `RESULT` changes, and the token is checked first. -/
def Obligations.IllegalBuildIsRefused : Prop :=
  (∀ (op : Str) (id : BitVec 16) (inst : BitVec 8) (val : Str) (s : State),
    (op.length < s.cfg.opTokenMin ∨ s.cfg.opTokenMax < op.length ∨ ∃ c ∈ op, isTok c = false) →
      exec (.buildBare op) s = .next { s with result := .refused .badToken } ∧
      exec (.buildRead op id inst) s = .next { s with result := .refused .badToken } ∧
      exec (.buildWrite op id inst val) s = .next { s with result := .refused .badToken }) ∧
  (∀ (op : Str) (id : BitVec 16) (inst : BitVec 8) (val : Str) (s : State),
    s.cfg.opTokenMin ≤ op.length → op.length ≤ s.cfg.opTokenMax → (∀ c ∈ op, isTok c = true) →
    (val.length ≠ 8 ∨ ∃ c ∈ val, isHexU c = false) →
      exec (.buildWrite op id inst val) s = .next { s with result := .refused .badValue })

/-- 43_framer.md R99, R100, R101 and 20_memory.md R29: the length of a built request by form; with the default token bounds
it lies between 12 and 28. -/
def Obligations.BuiltRequestLength : Prop :=
  ∀ (i : Instr) (op : Str) (n : Nat) (s t : State),
    ((i = .buildBare op ∧ n = 11) ∨ (∃ id inst, i = .buildRead op id inst ∧ n = 17) ∨
      (∃ id inst val, i = .buildWrite op id inst val ∧ n = 25)) →
    exec i s = .next t → t.result = .ok →
    t.tx.length = n + op.length ∧
      (s.cfg.opTokenMin = 1 → s.cfg.opTokenMax = 3 → 12 ≤ t.tx.length ∧ t.tx.length ≤ 28)

/-- 10_state.md R12, 43_framer.md R98: the sequence counter read as a number advances by one, modulo 0x10000, on a build that
succeeds and on nothing else. -/
def Obligations.SeqAdvancesExactlyOnBuild : Prop :=
  ∀ (i : Instr) (s t : State), exec i s = .next t →
    (t.result = .ok → ((∃ op, i = .buildBare op) ∨ (∃ op id inst, i = .buildRead op id inst) ∨
        (∃ op id inst val, i = .buildWrite op id inst val)) →
      t.seq.toNat = (s.seq.toNat + 1) % 65536) ∧
    (t.seq ≠ s.seq → t.result = .ok ∧ ((∃ op, i = .buildBare op) ∨ (∃ op id inst, i = .buildRead op id inst) ∨
        (∃ op id inst val, i = .buildWrite op id inst val)))

/-- 10_state.md R12: no operation but the `BUILD_*` reads `SEQ`. -/
def Obligations.SeqOnlyReadByBuild : Prop :=
  ∀ (i : Instr) (q : BitVec 16) (s : State),
    (∀ op, i ≠ .buildBare op) → (∀ op id inst, i ≠ .buildRead op id inst) →
    (∀ op id inst val, i ≠ .buildWrite op id inst val) →
    exec i { s with seq := q } = andThen (exec i s) (fun t => .next { t with seq := q })

/-- 10_state.md R11 to R16 and 20_memory.md R25: who writes what. `CRC`, `SEQ`, `ADDR`, `ERRCODE`, `TX` and `RX` change only by
the rows the spec names for each; `RESULT` by the operations, `VALUE` by those that end `OK`; no row writes the parameters
(R20). That a frame row is the load of `RX` and leaves `RESULT` and `VALUE` is notes/assumptions/2.md and 8.md, the host's list
is the model's own field (notes/assumptions/3.md), and the `VALUE` kept by a failure is notes/assumptions/7.md. -/
def Obligations.RegistersHaveTheirWriters : Prop :=
  ∀ (i : Instr) (s t : State), exec i s = .next t →
    t.cfg = s.cfg ∧ t.inputs = s.inputs ∧
    (t.addr = s.addr ∨ i = .setAddr t.addr) ∧
    (t.seq = s.seq ∨ Safety.builds s.cfg i = true) ∧
    (t.result = s.result ∨ ∃ w, encode i = .command w) ∧
    (t.value = s.value ∨ (t.result = .ok ∧ ∃ w, encode i = .command w)) ∧
    (t.tx = s.tx ∨ Safety.builds s.cfg i = true) ∧
    (t.rx = s.rx ∨ encode i = .line t.rx) ∧
    (t.errcode = s.errcode ∨ (i = .parseRsp ∧ t.result = .deviceError)) ∧
    (t.crc = s.crc ∨ i = .crcClr ∨ (∃ b, i = .crcUpd b) ∨ (∃ x, i = .checksum x) ∨ Safety.builds s.cfg i = true ∨
      (i = .parseRsp ∧ (t.result = .ok ∨ t.result = .checksumMismatch)))

/-! ### The Message Framer: parsing -/

/-- 43_framer.md R103: fewer than 11 characters, whatever they are. -/
def Obligations.ParseShortIsFramingError : Prop :=
  ∀ s : State, s.rx.length < 11 → exec .parseRsp s = .next { s with result := .framingError .short }

/-- 43_framer.md R104, R105 and 60_exceptions.md R131: the first `'+'` decides, wherever it stands and whatever else the
string holds. -/
def Obligations.ParseMarkerDecides : Prop :=
  ∀ (s : State) (k : Nat), 11 ≤ s.rx.length → s.rx[k]? = some 0x2B#8 → (∀ j, j < k → s.rx[j]? ≠ some 0x2B#8) →
    (∀ d : Nat, d < 10 → s.rx[k + 1]? = some 0x30#8 → s.rx[k + 2]? = some (BitVec.ofNat 8 (0x30 + d)) →
      exec .parseRsp s = .next { s with errcode := BitVec.ofNat 4 d, result := .deviceError }) ∧
    ((s.rx[k + 1]? ≠ some 0x30#8 ∨ ∀ d : Nat, d < 10 → s.rx[k + 2]? ≠ some (BitVec.ofNat 8 (0x30 + d))) →
      exec .parseRsp s = .next { s with result := .framingError .badErrorFrame } ∧
        ({ s with result := .framingError .badErrorFrame } : State).readErrcode = none)

/-- 43_framer.md R106 with the order of 60_exceptions.md R136: the preamble, then the alphabet of the header digits and of the
checksum field. -/
def Obligations.ParseChecksFixedFields : Prop :=
  ∀ s : State, 11 ≤ s.rx.length → 0x2B#8 ∉ s.rx →
    (∀ x, s.cfg.rspPreamble = some x → s.rx[0]? ≠ some x →
      exec .parseRsp s = .next { s with result := .framingError .badPreamble }) ∧
    ((∀ x, s.cfg.rspPreamble = some x → s.rx[0]? = some x) →
      (∃ k c, ((1 ≤ k ∧ k ≤ 6) ∨ s.rx.length - 4 ≤ k) ∧ s.rx[k]? = some c ∧ isHexU c = false) →
      exec .parseRsp s = .next { s with result := .framingError .badAlphabet })

/-- 43_framer.md R107, R108 with 40_crc.md R71: on a string that passes the first three steps, `PARSE_RSP` compares the last
four characters with the digits of the checksum of all the others; it returns the payload or leaves the recomputed value. -/
def Obligations.ParseValidatesChecksum : Prop :=
  ∀ s : State, 11 ≤ s.rx.length → 0x2B#8 ∉ s.rx →
    (∀ x, s.cfg.rspPreamble = some x → s.rx[0]? = some x) →
    (∀ k c, (1 ≤ k ∧ k ≤ 6) ∨ s.rx.length - 4 ≤ k → s.rx[k]? = some c → isHexU c = true) →
    exec .parseRsp s =
      if s.rx.drop (s.rx.length - 4) = hex4 (checksum (s.rx.take (s.rx.length - 4))) then
        .next { s with crc := checksum (s.rx.take (s.rx.length - 4)), result := .ok,
                       value := .str ((s.rx.drop 7).take (s.rx.length - 11)) }
      else
        .next { s with crc := checksum (s.rx.take (s.rx.length - 4)), result := .checksumMismatch }

/-- 43_framer.md R109, 20_memory.md R37: the echoes are not compared. A data response is accepted whatever address and
sequence number it echoes, and its payload is returned as it stands, the empty one of R110 among them. -/
def Obligations.AnyEchoIsAccepted : Prop :=
  ∀ (x : Byte) (a : BitVec 8) (q : BitVec 16) (p : Str) (s : State),
    x ≠ 0x2B#8 → 0x2B#8 ∉ p → (s.cfg.rspPreamble = none ∨ s.cfg.rspPreamble = some x) →
    s.rx = dataFrame x a q p →
    exec .parseRsp s =
      .next { s with crc := checksum (x :: (hex2 a ++ hex4 q ++ p)), result := .ok, value := .str p }

/-- 43_framer.md R112: a request that has been built, loaded into `RX`, parses to its token and tail. -/
def Obligations.BuiltRequestLoopsBack : Prop :=
  ∀ (i : Instr) (op tail : Str) (s t : State),
    ((i = .buildBare op ∧ tail = []) ∨ (∃ id inst, i = .buildRead op id inst ∧ tail = hex4 id ++ hex2 inst) ∨
      (∃ id inst val, i = .buildWrite op id inst val ∧ tail = hex4 id ++ hex2 inst ++ val)) →
    (s.cfg.rspPreamble = none ∨ s.cfg.rspPreamble = some 0x23#8) →
    exec i s = .next t → t.result = .ok →
    exec .parseRsp { t with rx := t.tx } = .next { t with rx := t.tx, result := .ok, value := .str (op ++ tail) }

/-- 43_framer.md R107 with 40_crc.md R69: of a response that is accepted, a single altered character is reported as
`ChecksumMismatch`, unless it is an error marker, takes a fixed field out of `HEXU`, or stands at index 0 under a set
`RSP_PREAMBLE`; those three end otherwise (`ParseMarkerDecides`, `ParseChecksFixedFields`). -/
def Obligations.AlteredCharacterIsDetected : Prop :=
  ∀ (s t : State) (k : Nat) (c b : Byte),
    exec .parseRsp s = .next t → t.result = .ok → s.rx[k]? = some c → b ≠ c → b ≠ 0x2B#8 →
    (k = 0 → s.cfg.rspPreamble = none) →
    ((1 ≤ k ∧ k ≤ 6) ∨ s.rx.length - 4 ≤ k → isHexU b = true) →
    ∃ u, exec .parseRsp { s with rx := s.rx.set k b } = .next u ∧ u.result = .checksumMismatch

/-! ### Errors -/

/-- 30_encoding.md R54: the reserved code. -/
def Obligations.ReservedCodeIsRefused : Prop :=
  ∀ s : State, exec .reservedF s = .next { s with result := .refused .reservedOp } ∧
    decode s.cfg (.command { opsel := 0xF#4 }) = .ok .reservedF

/-- 60_exceptions.md R135: which operation can end with which outcome, by the 3-bit codes of R128; the timeout event; the
host's `DEC_STATUS`, which succeeds on the codes 0, 1 and 2 and on no other. The frame rows are no operations and have no row in the matrix. -/
def Obligations.OutcomesFollowMatrix : Prop :=
  (∀ (i : Instr) (s t : State), exec i s = .next t →
    match i with
    | .crcClr | .crcUpd _ | .crcRd | .checksum _ | .encU8 _ | .encU16 _ | .encI32 _ | .encF32 _ | .setAddr _ =>
      resultCode t.result = 0
    | .decI32 _ | .decF32 _ => resultCode t.result = 0 ∨ resultCode t.result = 4
    | .buildBare _ | .buildRead _ _ _ | .buildWrite _ _ _ _ => resultCode t.result = 0 ∨ resultCode t.result = 6
    | .parseRsp => resultCode t.result ≤ 3
    | .reservedF => resultCode t.result = 6
    | .reqBare _ _ _ | .reqRead _ _ _ _ _ | .reqWrite _ _ _ _ _ _ | .rspData _ _ _ _ | .rspError _ _ _ => True) ∧
  (∀ s t : State, takeInput .timeout s = .next t → resultCode t.result = 5) ∧
  (∀ v : BitVec 32, v.toNat ≤ 2 → ∃ x, decStatus v = .ok x) ∧
  (∀ v : BitVec 32, 2 < v.toNat → ∃ e, decStatus v = .error e ∧ resultCode (.decodeError e) = 4)

/-- 60_exceptions.md R137: what a failure leaves. Of an operation that ends with another outcome than `OK`, `SEQ`, `ADDR`,
`TX`, `RX` and the stored `VALUE` stand; `CRC` changes for `ChecksumMismatch` only and `ERRCODE` for `DeviceError` only; the
timeout empties `RX`. -/
def Obligations.FailureLeavesTheRest : Prop :=
  (∀ (c : Command) (s t : State), exec (decodeCommand c) s = .next t → t.result ≠ .ok →
    t = { s with result := t.result, crc := t.crc, errcode := t.errcode } ∧
    (t.crc ≠ s.crc → t.result = .checksumMismatch) ∧ (t.errcode ≠ s.errcode → t.result = .deviceError) ∧
    (t.result = .checksumMismatch → t.crc = checksum (s.rx.take (s.rx.length - 4)))) ∧
  (∀ s : State, takeInput .timeout s = .next { s with rx := [], result := .transportTimeout })

/-- 60_exceptions.md R138: no outcome is sticky. What the next operation does depends on nothing an earlier one left in
`RESULT`, `ERRCODE` and `VALUE`. -/
def Obligations.NoOutcomeIsSticky : Prop :=
  ∀ (c : Command) (r : Result) (e : BitVec 4) (v : Value) (s t : State), exec (decodeCommand c) s = .next t →
    ∃ u, exec (decodeCommand c) { s with result := r, errcode := e, value := v } = .next u ∧
      u.result = t.result ∧ u.crc = t.crc ∧ u.seq = t.seq ∧ u.addr = t.addr ∧ u.tx = t.tx ∧ u.rx = t.rx ∧
      u.readValue = t.readValue ∧ u.readErrcode = t.readErrcode

/-- 10_state.md R15, R16: after any operation `VALUE` reads a value only under `OK`, and `ERRCODE` reads one exactly under
`DeviceError`, and then one of 0..9. -/
def Obligations.ValueAndErrcodeReadability : Prop :=
  ∀ (c : Command) (s t : State), exec (decodeCommand c) s = .next t →
    (t.result ≠ .ok → t.readValue = none) ∧
    (∀ e, t.readErrcode = some e ↔ t.result = .deviceError ∧ t.errcode = e) ∧
    (∀ e, t.readErrcode = some e → e < 10#4)

/-! ### Host events, frames and the step -/

/-- 60_exceptions.md R132, 43_framer.md R111: the timeout, and a `PARSE_RSP` after it. The list the timeout is taken from is the
model's own (notes/assumptions/3.md, DESIGN CHOICE). -/
def Obligations.TimeoutThenShort : Prop :=
  ∀ (s : State) (rest : List HostInput), s.inputs = .timeout :: rest →
    step s = .next { s with rx := [], result := .transportTimeout, inputs := rest } ∧
    andThen (step s) (exec .parseRsp) = .next { s with rx := [], result := .framingError .short, inputs := rest }

/-- 20_memory.md R30: a received string stands in `RX` exactly as the transport returned it, any bytes, any length up to
`RX_MAX`, frame or not. That `RESULT`, `ERRCODE`, `VALUE` and `CRC` are left as they were is the model's reading
(notes/assumptions/8.md, DEDUCED), and the list it is taken from is the model's own (notes/assumptions/3.md). -/
def Obligations.ReceivedStringIsLoadedWhole : Prop :=
  ∀ (s : State) (l : Str) (rest : List HostInput), s.inputs = .word (.line l) :: rest →
    (∀ m, s.cfg.rxMax = some m → l.length ≤ m) →
    step s = .next { s with rx := l, inputs := rest }

/-- The model's reading of a configured `RX_MAX` (notes/assumptions/10.md, and 3.md for the list of inputs; 92_eei_decisions.md D29): a longer string is
refused. -/
def Obligations.OverlongStringIsRefused : Prop :=
  ∀ (s : State) (l : Str) (m : Nat) (rest : List HostInput), s.inputs = .word (.line l) :: rest →
    s.cfg.rxMax = some m → m < l.length → step s = .refused .rxOverlong

/-- 30_encoding.md R48, R49, R50 read as frames on the receive line (notes/assumptions/2.md): each frame row loads its
characters into `RX` and changes nothing else (notes/assumptions/8.md). -/
def Obligations.FrameRowsLoadTheirCharacters : Prop :=
  ∀ s : State, s.cfg.rxMax = none →
    (∀ (a : BitVec 8) (q : BitVec 16) (op : Str),
      let body := 0x23#8 :: (hex2 a ++ hex4 q ++ op)
      exec (.reqBare a q op) s = .next { s with rx := body ++ hex4 (checksum body) }) ∧
    (∀ (a : BitVec 8) (q : BitVec 16) (op : Str) (id : BitVec 16) (inst : BitVec 8),
      let body := 0x23#8 :: (hex2 a ++ hex4 q ++ op ++ hex4 id ++ hex2 inst)
      exec (.reqRead a q op id inst) s = .next { s with rx := body ++ hex4 (checksum body) }) ∧
    (∀ (a : BitVec 8) (q : BitVec 16) (op : Str) (id : BitVec 16) (inst : BitVec 8) (val : Str),
      let body := 0x23#8 :: (hex2 a ++ hex4 q ++ op ++ hex4 id ++ hex2 inst ++ val)
      exec (.reqWrite a q op id inst val) s = .next { s with rx := body ++ hex4 (checksum body) }) ∧
    (∀ (x : Byte) (a : BitVec 8) (q : BitVec 16) (p : Str),
      let body := x :: (hex2 a ++ hex4 q ++ p)
      exec (.rspData x a q p) s = .next { s with rx := body ++ hex4 (checksum body) }) ∧
    (∀ (before after : Str) (d : Nat), d < 10 →
      exec (.rspError before (BitVec.ofNat 4 d) after) s =
        .next { s with rx := before ++ [0x2B#8, 0x30#8, BitVec.ofNat 8 (0x30 + d)] ++ after })

/-- 70_reset_and_hazards.md R146: a new session is a reset, with the same parameters; what was issued after it stays pending
(notes/assumptions/12.md, and 3.md for the list of inputs). -/
def Obligations.NewSessionResets : Prop :=
  ∀ (s : State) (rest : List HostInput), s.inputs = .newSession :: rest →
    step s = .next { State.ofConfig s.cfg with inputs := rest }

/-- 70_reset_and_hazards.md R160 (notes/assumptions/3.md): with nothing issued, nothing changes. -/
def Obligations.IdleBlockIsUnchanged : Prop :=
  ∀ s : State, s.inputs = [] → step s = .next s

/-- 10_state.md R10 (notes/assumptions/3.md): a step takes the host's oldest input and runs the instruction it decodes to. -/
def Obligations.StepRunsDecodedInstruction : Prop :=
  ∀ (s : State) (w : PortWord) (i : Instr) (rest : List HostInput),
    s.inputs = .word w :: rest → decode s.cfg w = .ok i → step s = exec i { s with inputs := rest }

/-- 20_memory.md R38, 60_exceptions.md R138: with `RX_MAX` unbounded every step answers a next state, from every state; it has
taken the oldest input of the host's list, if any (notes/assumptions/3.md), and left the parameters as they are. -/
def Obligations.EveryStepTakesOneInput : Prop :=
  ∀ s : State, s.cfg.rxMax = none → ∃ t : State, step s = .next t ∧ t.inputs = s.inputs.tail ∧ t.cfg = s.cfg

/-- 20_memory.md R38, 60_exceptions.md R138, 70_reset_and_hazards.md R160: with `RX_MAX` unbounded every host program runs to
its end, from every state, one input a step, and the parameters are the same at the end. A program is the host's list of inputs
(notes/assumptions/3.md). -/
def Obligations.EveryHostProgramRunsToItsEnd : Prop :=
  ∀ s : State, s.cfg.rxMax = none →
    ∃ t : State, Host.Core.run Sys2Proof.core s.inputs.length s = .next t ∧ t.inputs = [] ∧ t.cfg = s.cfg

/-- The invariant of Safety.lean (20_memory.md R29, R30; 10_state.md R15; 60_exceptions.md R133) holds of the block just
made. Its clause on `ERRCODE` speaks of the stored bits, which are the model's choice there: R23 gives `ERRCODE` no value at
reset (notes/assumptions/6.md, DESIGN CHOICE). -/
def Obligations.ResetMeetsInvariant : Prop :=
  ∀ c : Config, Safety.Inv (State.ofConfig c)

/-- Every step keeps the invariant, from every state that has it: `TX` is nothing or a whole request in one of the three forms
(20_memory.md R29, 30_encoding.md R48), `RX` fits `RX_MAX`, `ERRCODE` is one of 0..9, `RESULT` is no outcome of the host's. -/
def Obligations.StepKeepsInvariant : Prop :=
  ∀ s t : State, Safety.Inv s → step s = .next t → Safety.Inv t

/-! ### Encoding -/

/-- 30_encoding.md R48 to R52: decoding an encoded well-formed instruction gives it back, with every operand, for every setting
of the token bounds that lets a request be cut back into its fields by its length, the default 1 and 3 among them (R51: "A
request cannot in general be cut back"; notes/assumptions/2.md). -/
def Obligations.DecodeInvertsEncode : Prop :=
  ∀ (c : Config) (i : Instr), c.opTokenMax < c.opTokenMin + 6 → wellFormed c i = true → decode c (encode i) = .ok i

/-- 30_encoding.md R48 to R51: a received string that decodes is the encoding of the well-formed frame it decodes to, so no
two strings are one frame and no character of a frame is dropped. -/
def Obligations.EncodeInvertsDecodeOfLines : Prop :=
  ∀ (c : Config) (l : Str) (i : Instr), decode c (.line l) = .ok i → wellFormed c i = true ∧ encode i = .line l

/-- 30_encoding.md R52: the sixteen codes, on one command; and one frame, the request of 43_framer.md R100's example,
character by character. The operand ports are the model's (notes/assumptions/1.md). -/
def Obligations.TabledWordsDecode : Prop :=
  decode Config.default (.line [0x23#8, 0x30#8, 0x32#8, 0x30#8, 0x30#8, 0x30#8, 0x30#8, 0x3F#8, 0x56#8, 0x52#8, 0x30#8, 0x33#8, 0x45#8,
      0x38#8, 0x30#8, 0x31#8, 0x31#8, 0x44#8, 0x43#8, 0x41#8]) =
    .ok (.reqRead 0x02#8 0x0000#16 [0x3F#8, 0x56#8, 0x52#8] 1000#16 1#8) ∧
  ∀ (c : Config) (b : BitVec 8) (h : BitVec 16) (w : BitVec 32) (x y : Str),
    List.ofFn (fun k : Fin 16 => decode c (.command
        { opsel := BitVec.ofNat 4 k.val, byte := b, half := h, word := w, str := x, val := y })) =
      [.ok .crcClr, .ok (.crcUpd b), .ok .crcRd, .ok (.checksum x), .ok (.encU8 b), .ok (.encU16 h), .ok (.encI32 w),
       .ok (.decI32 x), .ok (.encF32 w), .ok (.decF32 x), .ok (.buildBare x), .ok (.buildRead x h b),
       .ok (.buildWrite x h b y), .ok .parseRsp, .ok (.setAddr b), .ok .reservedF]

/-! ### The host at the boundary -/

/-- 45_session.md R120: `DEC_STATUS`, negative codes unknown like any other. -/
def Obligations.UnknownStatusIsDecodeError : Prop :=
  decStatus 0 = .ok .off ∧ decStatus 1 = .ok .unstable ∧ decStatus 2 = .ok .stable ∧
  ∀ v : BitVec 32, (v.toInt < 0 ∨ 2 < v.toInt) → decStatus v = .error .unknownStatus

/-- 45_session.md R122, 43_framer.md R111: a logical operation that times out has consumed its sequence number and no
response. -/
def Obligations.TimedOutOperationKeepsSequence : Prop :=
  ∀ (r : LogicalRequest) (kind : ValueKind) (s : State),
    (∃ op, tokenLegal s.cfg op = true ∧
      (r = .bare op ∨ (∃ id inst, r = .read op id inst) ∨ (∃ id inst v, r = .write op id inst v))) →
    ∃ t, runLogical r kind none s = .next t ∧ t.result = .transportTimeout ∧ t.seq = s.seq + 1 ∧ t.rx = [] ∧
      t.addr = s.addr ∧ t.readValue = none

/-- 45_session.md R117, R118: a read whose answer is a data response with the digits of a number ends with that number,
whichever address and sequence number the answer echoes (70_reset_and_hazards.md R153), under either float order. -/
def Obligations.LogicalReadDeliversValue : Prop :=
  ∀ (op : Str) (id : BitVec 16) (inst : BitVec 8) (v : BitVec 32) (x : Byte) (a : BitVec 8) (q : BitVec 16) (s : State),
    tokenLegal s.cfg op = true → s.cfg.rxMax = none → x ≠ 0x2B#8 →
    (s.cfg.rspPreamble = none ∨ s.cfg.rspPreamble = some x) →
    (∃ t, runLogical (.read op id inst) .int32 (some (dataFrame x a q (hex8 v))) s = .next t ∧
      t.readValue = some (.u32 v) ∧ t.seq = s.seq + 1) ∧
    (∃ t, runLogical (.read op id inst) .float32 (some (dataFrame x a q (hex8 (ordBytes s.cfg.floatOrder v)))) s = .next t ∧
      t.readValue = some (.u32 v) ∧ t.seq = s.seq + 1)

/-- 45_session.md R121: a connect sequence that ends with `OK` has built three requests, and `ADDR` is the address it set; on a
block just reset, as a connect does it (70_reset_and_hazards.md R147), `SEQ` is then 3. -/
def Obligations.CleanConnectLeavesSeqThree : Prop :=
  ∀ (a : BitVec 8) (w1 w2 : LogicalRequest) (identify : Str) (r1 r2 r3 : Option Str) (s t : State),
    (connectSequence a w1 w2 identify r1 r2 r3 s = .next t → t.result = .ok → t.seq = s.seq + 3 ∧ t.addr = a) ∧
    (connectSequence a w1 w2 identify r1 r2 r3 (newSession s) = .next t → t.result = .ok →
      t.seq = 0x0003#16 ∧ t.addr = a)

/-- 45_session.md R114, 70_reset_and_hazards.md R147: the two phases of a session. From `Disconnected` a connect resets the block
first; then a successful handshake enters `Connected` with the block the connect sequence leaves, and a failed one leaves the
session `Disconnected`; logical operations exist only while `Connected` and stay in it; close goes back to `Disconnected`. That
the session is `Connected` whatever the sequence ends with is the model's choice, and that a failed handshake leaves the block
reset its deduction from R147's order (notes/assumptions/17.md). -/
def Obligations.SessionHasTwoPhases : Prop :=
  (∀ (t : Catalogue) (a : BitVec 8) (w1 w2 : LogicalRequest) (op : Str) (r1 r2 r3 : Option Str) (x : Session),
    (t .disableFlashPersistence).request none = some w1 → (t .setRampStartPoint).request none = some w2 →
    (t .identify).token = some op → x.phase = .disconnected →
    sessionConnect t a false r1 r2 r3 x = some (.next { phase := .disconnected, block := newSession x.block }) ∧
    (∀ s, connectSequence a w1 w2 op r1 r2 r3 (newSession x.block) = .next s →
      sessionConnect t a true r1 r2 r3 x = some (.next { phase := .connected, block := s }))) ∧
  (∀ (t : Catalogue) (a : BitVec 8) (h : Bool) (r1 r2 r3 : Option Str) (x : Session),
    x.phase = .connected → sessionConnect t a h r1 r2 r3 x = none) ∧
  (∀ (t : Catalogue) (n : LogicalName) (v : Option (BitVec 32)) (reply : Option Str) (x : Session),
    (x.phase = .disconnected → sessionCall t n v reply x = none) ∧
    (∀ y, sessionCall t n v reply x = some (.next y) → x.phase = .connected ∧ y.phase = .connected)) ∧
  (∀ (t : Catalogue) (n : LogicalName) (v : Option (BitVec 32)) (reply : Option Str) (x : Session),
    (sessionClose x).phase = .disconnected ∧ sessionCall t n v reply (sessionClose x) = none)

/-- 45_session.md R119, R120: reading the stability state through any host's table that keeps R119's entries, answered by a data
response with the digits of a number: codes 0, 1, 2 give the status, every other a `DecodeError(UnknownStatus)`. -/
def Obligations.StabilityReadIsEnumerated : Prop :=
  ∀ (t : Catalogue) (id : BitVec 16) (inst : BitVec 8) (v : BitVec 32) (x : Byte) (a : BitVec 8) (q : BitVec 16) (y : Session),
    t.Completes → (t .stabilityState).paramId = some id → (t .stabilityState).inst = some inst →
    y.phase = .connected → tokenLegal y.block.cfg readToken = true → y.block.cfg.rxMax = none → x ≠ 0x2B#8 →
    (y.block.cfg.rspPreamble = none ∨ y.block.cfg.rspPreamble = some x) →
    ∃ z, sessionCall t .stabilityState none (some (dataFrame x a q (hex8 v))) y = some (.next z) ∧
      z.block.seq = y.block.seq + 1 ∧
      sessionAnswer t .stabilityState z = some
        (if v = 0 then .ok (.status .off) else if v = 1 then .ok (.status .unstable)
         else if v = 2 then .ok (.status .stable)
         else .error { result := .decodeError .unknownStatus, code := none })

/-- 45_session.md R115 (Safety.lean's reading, notes/assumptions/18.md): while a host keeps its duties, once a `BUILD_*` has
been issued no input but a new session changes `ADDR`. -/
def Obligations.DutifulHostKeepsAddress : Prop :=
  ∀ (target : BitVec 8) (d d' : Safety.Duty) (e : HostInput) (s t : State),
    Safety.dutyInput s.cfg target d e = some d' → e ≠ .newSession → d.built = true → takeInput e s = .next t →
    t.addr = s.addr ∧ d'.built = true

/-- 45_session.md R115 with 70_reset_and_hazards.md R147 item 3 (Safety.lean's reading, notes/assumptions/18.md): in a dutiful
host's session `ADDR` is the target's address once it has been set, or from the start where `ADDR_RESET` is that address; each
input keeps this, and every request built under it carries the target's address. -/
def Obligations.DutifulRequestsCarryTarget : Prop :=
  ∀ (target : BitVec 8) (d d' : Safety.Duty) (e : HostInput) (s t : State),
    (d.addressed = true ∨ s.cfg.addrReset = target → s.addr = target) →
    Safety.dutyInput s.cfg target d e = some d' → takeInput e s = .next t →
    (d'.addressed = true ∨ t.cfg.addrReset = target → t.addr = target) ∧
    (t.tx = s.tx ∨ t.tx = [] ∨ t.tx.take 3 = 0x23#8 :: hex2 target)
end

