-- ==== Sys2Proof/Laws/Config.lean ====
section
/-! SUPPORT. The widths of 00_scope.md R7 as types and as numbers agree, and the two lengths follow from them. -/

namespace Sys2Proof

theorem crcWord_eq : CrcWord = BitVec Config.crcWidth := rfl
theorem seqWord_eq : SeqWord = BitVec Config.seqWidth := rfl
theorem addrWord_eq : AddrWord = BitVec Config.addrWidth := rfl

/-- The header is the preamble, the address digits and the sequence digits (R37). -/
theorem Config.hdrLen_eq : Config.hdrLen = 1 + Config.addrWidth / 4 + Config.seqWidth / 4 := rfl

/-- The checksum field is the digits of `CRC` (R70). -/
theorem Config.cksLen_eq : Config.cksLen = Config.crcWidth / 4 := rfl

end Sys2Proof
end

