-- ==== Sys2Proof/Laws/Digits.lean ====
section
/-! SUPPORT. The small lemmas of the digit primitives and of the wire strings: lengths and alphabets. -/

namespace Sys2Proof.Machine

/-- `HEXVAL` reads back what `HEXCHAR` writes. -/
@[simp] theorem hexVal_hexChar (n : BitVec 4) : hexVal (hexChar n) = some n := by
  revert n; decide

/-- A digit character is in `HEXU`. -/
@[simp] theorem isHexU_hexChar (n : BitVec 4) : isHexU (hexChar n) = true := by
  simp [isHexU]

/-- `HEXCHAR` writes back what `HEXVAL` reads. -/
theorem hexChar_of_hexVal : ∀ {c : Byte} {d : BitVec 4}, hexVal c = some d → hexChar d = c := by
  decide

/-- No character of `HEXU` is the error marker, and all are ASCII. -/
theorem isHexU_ascii : ∀ {c : Byte}, isHexU c = true → c < 0x80#8 ∧ c ≠ chPlus := by
  decide

/-- No character of `TOK` is the error marker, and all are ASCII. -/
theorem isTok_ascii : ∀ {c : Byte}, isTok c = true → c < 0x80#8 ∧ c ≠ chPlus := by
  decide

@[simp] theorem hexDigits_length (k v : Nat) : (hexDigits k v).length = k := by
  induction k generalizing v with
  | zero => rfl
  | succ k ih => simp [hexDigits, ih]

theorem hexDigits_all_isHexU (k v : Nat) : (hexDigits k v).all isHexU = true := by
  induction k generalizing v with
  | zero => rfl
  | succ k ih => simp [hexDigits, ih]

@[simp] theorem hex2_length (v : BitVec 8) : (hex2 v).length = 2 := by simp [hex2]
@[simp] theorem hex4_length (v : BitVec 16) : (hex4 v).length = 4 := by simp [hex4]
@[simp] theorem hex8_length (v : BitVec 32) : (hex8 v).length = 8 := by simp [hex8]
theorem hex2_all_isHexU (v : BitVec 8) : (hex2 v).all isHexU = true := hexDigits_all_isHexU 2 v.toNat
theorem hex4_all_isHexU (v : BitVec 16) : (hex4 v).all isHexU = true := hexDigits_all_isHexU 4 v.toNat
theorem hex8_all_isHexU (v : BitVec 32) : (hex8 v).all isHexU = true := hexDigits_all_isHexU 8 v.toNat

/-- A string has an `UNHEX` exactly when every character is in `HEXU` (R45). -/
theorem unhexFrom_isSome (s : Str) (acc : Nat) : (unhexFrom acc s).isSome = s.all isHexU := by
  induction s generalizing acc with
  | nil => rfl
  | cons c s ih =>
    cases h : hexVal c with
    | none => simp [unhexFrom, isHexU, h]
    | some d => simp [unhexFrom, isHexU, h, ih]

theorem unhex_isSome (s : Str) : (unhex s).isSome = s.all isHexU := unhexFrom_isSome s 0

/-- `k` digits hold exactly `4k` bits (R81). -/
theorem unhexFrom_lt {s : Str} {acc k v : Nat} (hacc : acc < 16 ^ k) (h : unhexFrom acc s = some v) :
    v < 16 ^ (k + s.length) := by
  induction s generalizing acc k with
  | nil => simp only [unhexFrom, Option.some.injEq] at h; simpa [← h] using hacc
  | cons c s ih =>
    cases hc : hexVal c with
    | none => simp [unhexFrom, hc] at h
    | some d =>
      simp only [unhexFrom, hc] at h
      have hd : d.toNat < 16 := d.isLt
      have hlt : 16 * acc + d.toNat < 16 ^ (k + 1) := by rw [Nat.pow_succ]; omega
      have := ih hlt h
      rw [List.length_cons]
      rwa [show k + 1 + s.length = k + (s.length + 1) by omega] at this

@[simp] theorem withChecksum_length (b : Str) : (withChecksum b).length = b.length + 4 := by
  simp [withChecksum]

@[simp] theorem requestBody_length (a : BitVec 8) (q : BitVec 16) (op tail : Str) :
    (requestBody a q op tail).length = 7 + op.length + tail.length := by
  simp [requestBody]; omega

@[simp] theorem request_length (a : BitVec 8) (q : BitVec 16) (op tail : Str) :
    (request a q op tail).length = 11 + op.length + tail.length := by
  simp [request]; omega

@[simp] theorem bareTail_length : bareTail.length = 0 := rfl

@[simp] theorem readTail_length (id : BitVec 16) (inst : BitVec 8) : (readTail id inst).length = 6 := by
  simp [readTail]

@[simp] theorem writeTail_length (id : BitVec 16) (inst : BitVec 8) (val : Str) :
    (writeTail id inst val).length = 6 + val.length := by
  simp [writeTail]; omega

@[simp] theorem dataFrame_length (x : Byte) (a : BitVec 8) (q : BitVec 16) (p : Str) :
    (dataFrame x a q p).length = 11 + p.length := by
  simp [dataFrame]; omega

@[simp] theorem errorFrame_length (before : Str) (d : BitVec 4) (after : Str) :
    (errorFrame before d after).length = before.length + 3 + after.length := by
  simp [errorFrame]; omega

end Sys2Proof.Machine
end

