-- ==== Sys2Proof/Machine/Memory.lean ====
section
/-! DEFINITION. The two writable spaces of 20_memory.md R25 as memories: `TX` and `RX` are strings with a length, index 0
first, replaced as a whole (R29, R30). Here is their view as address and byte pairs in one canonical form (addresses strictly
rising), in which an unlisted address reads as nothing: R35, no index outside `0..len-1` exists. -/

namespace Sys2Proof.Machine

/-- Cells of a string whose first byte has index `i`. -/
def cellsFrom : Nat → Str → List Host.Cell
  | _, [] => []
  | i, b :: s => (i, b) :: cellsFrom (i + 1) s

/-- A string as a memory, index 0 first (R8). -/
def memoryOf (s : Str) : List Host.Cell := cellsFrom 0 s

/-- The space `TX` (R25, R29). -/
def State.txMemory (s : State) : List Host.Cell := memoryOf s.tx

/-- The space `RX` (R25, R30). -/
def State.rxMemory (s : State) : List Host.Cell := memoryOf s.rx

/-- Every address is at least `i` and they rise strictly. -/
def risingFrom : Nat → List Host.Cell → Bool
  | _, [] => true
  | i, c :: m => decide (i ≤ c.1) && risingFrom (c.1 + 1) m

/-- The canonical form: strictly rising addresses. There is no default byte, so no entry can equal one. -/
def Memory.wf (m : List Host.Cell) : Bool := risingFrom 0 m

/-- The byte at an index; nothing where the space has no such index (R35). -/
def readByte : List Host.Cell → Nat → Option Byte
  | [], _ => none
  | c :: m, a => if c.1 = a then some c.2 else readByte m a

end Sys2Proof.Machine
end

