-- ==== Sys2Proof/Laws/Memory.lean ====
section
/-! SUPPORT. The two strings as memories: the canonical form holds of every string, so every operation keeps it, the
replacement of a whole string being the only write there is (20_memory.md R29, R30); and reading a cell reads the string. -/

namespace Sys2Proof.Machine

theorem risingFrom_cellsFrom (s : Str) : ∀ i j, i ≤ j → risingFrom i (cellsFrom j s) = true := by
  induction s with
  | nil => intro i j _; rfl
  | cons b s ih => intro i j h; simp [cellsFrom, risingFrom, h, ih]

/-- The memory of a string is in canonical form. -/
theorem memoryOf_wf (s : Str) : Memory.wf (memoryOf s) = true :=
  risingFrom_cellsFrom s 0 0 (Nat.le_refl 0)

theorem readByte_cellsFrom (s : Str) : ∀ i k, readByte (cellsFrom i s) (i + k) = s[k]? := by
  induction s with
  | nil => intro i k; rfl
  | cons b s ih =>
    intro i k
    cases k with
    | zero => simp [cellsFrom, readByte]
    | succ k =>
      have hk : i + (k + 1) = i + 1 + k := by omega
      have ne : ¬ i = i + 1 + k := by omega
      simp [cellsFrom, readByte, hk, ne, ih]

/-- Reading the memory of a string reads the string; outside its length there is no byte. -/
theorem readByte_memoryOf (s : Str) (k : Nat) : readByte (memoryOf s) k = s[k]? := by
  simpa [memoryOf] using readByte_cellsFrom s 0 k

/-- Both spaces are canonical in every state, the one after reset among them. -/
theorem spaces_wf (s : State) : Memory.wf s.txMemory = true ∧ Memory.wf s.rxMemory = true :=
  ⟨memoryOf_wf s.tx, memoryOf_wf s.rx⟩

end Sys2Proof.Machine
end

