-- ==== Sys2Proof/Laws/State.lean ====
section
/-! SUPPORT. The state's small lemmas: one for each field under each update of Machine/Ops.lean, all true by definition, so
that no later proof unfolds a record update; and what the shared operations over the state can do. -/

namespace Sys2Proof.Machine

@[simp] theorem State.setCrc_crc (s : State) (v : BitVec 16) : (s.setCrc v).crc = v := rfl
@[simp] theorem State.setCrc_seq (s : State) (v : BitVec 16) : (s.setCrc v).seq = s.seq := rfl
@[simp] theorem State.setCrc_addr (s : State) (v : BitVec 16) : (s.setCrc v).addr = s.addr := rfl
@[simp] theorem State.setCrc_result (s : State) (v : BitVec 16) : (s.setCrc v).result = s.result := rfl
@[simp] theorem State.setCrc_errcode (s : State) (v : BitVec 16) : (s.setCrc v).errcode = s.errcode := rfl
@[simp] theorem State.setCrc_value (s : State) (v : BitVec 16) : (s.setCrc v).value = s.value := rfl
@[simp] theorem State.setCrc_tx (s : State) (v : BitVec 16) : (s.setCrc v).tx = s.tx := rfl
@[simp] theorem State.setCrc_rx (s : State) (v : BitVec 16) : (s.setCrc v).rx = s.rx := rfl
@[simp] theorem State.setCrc_cfg (s : State) (v : BitVec 16) : (s.setCrc v).cfg = s.cfg := rfl
@[simp] theorem State.setCrc_inputs (s : State) (v : BitVec 16) : (s.setCrc v).inputs = s.inputs := rfl

@[simp] theorem State.setSeq_crc (s : State) (v : BitVec 16) : (s.setSeq v).crc = s.crc := rfl
@[simp] theorem State.setSeq_seq (s : State) (v : BitVec 16) : (s.setSeq v).seq = v := rfl
@[simp] theorem State.setSeq_addr (s : State) (v : BitVec 16) : (s.setSeq v).addr = s.addr := rfl
@[simp] theorem State.setSeq_result (s : State) (v : BitVec 16) : (s.setSeq v).result = s.result := rfl
@[simp] theorem State.setSeq_errcode (s : State) (v : BitVec 16) : (s.setSeq v).errcode = s.errcode := rfl
@[simp] theorem State.setSeq_value (s : State) (v : BitVec 16) : (s.setSeq v).value = s.value := rfl
@[simp] theorem State.setSeq_tx (s : State) (v : BitVec 16) : (s.setSeq v).tx = s.tx := rfl
@[simp] theorem State.setSeq_rx (s : State) (v : BitVec 16) : (s.setSeq v).rx = s.rx := rfl
@[simp] theorem State.setSeq_cfg (s : State) (v : BitVec 16) : (s.setSeq v).cfg = s.cfg := rfl
@[simp] theorem State.setSeq_inputs (s : State) (v : BitVec 16) : (s.setSeq v).inputs = s.inputs := rfl

@[simp] theorem State.setAddr_crc (s : State) (v : BitVec 8) : (s.setAddr v).crc = s.crc := rfl
@[simp] theorem State.setAddr_seq (s : State) (v : BitVec 8) : (s.setAddr v).seq = s.seq := rfl
@[simp] theorem State.setAddr_addr (s : State) (v : BitVec 8) : (s.setAddr v).addr = v := rfl
@[simp] theorem State.setAddr_result (s : State) (v : BitVec 8) : (s.setAddr v).result = s.result := rfl
@[simp] theorem State.setAddr_errcode (s : State) (v : BitVec 8) : (s.setAddr v).errcode = s.errcode := rfl
@[simp] theorem State.setAddr_value (s : State) (v : BitVec 8) : (s.setAddr v).value = s.value := rfl
@[simp] theorem State.setAddr_tx (s : State) (v : BitVec 8) : (s.setAddr v).tx = s.tx := rfl
@[simp] theorem State.setAddr_rx (s : State) (v : BitVec 8) : (s.setAddr v).rx = s.rx := rfl
@[simp] theorem State.setAddr_cfg (s : State) (v : BitVec 8) : (s.setAddr v).cfg = s.cfg := rfl
@[simp] theorem State.setAddr_inputs (s : State) (v : BitVec 8) : (s.setAddr v).inputs = s.inputs := rfl

@[simp] theorem State.setErrcode_crc (s : State) (v : BitVec 4) : (s.setErrcode v).crc = s.crc := rfl
@[simp] theorem State.setErrcode_seq (s : State) (v : BitVec 4) : (s.setErrcode v).seq = s.seq := rfl
@[simp] theorem State.setErrcode_addr (s : State) (v : BitVec 4) : (s.setErrcode v).addr = s.addr := rfl
@[simp] theorem State.setErrcode_result (s : State) (v : BitVec 4) : (s.setErrcode v).result = s.result := rfl
@[simp] theorem State.setErrcode_errcode (s : State) (v : BitVec 4) : (s.setErrcode v).errcode = v := rfl
@[simp] theorem State.setErrcode_value (s : State) (v : BitVec 4) : (s.setErrcode v).value = s.value := rfl
@[simp] theorem State.setErrcode_tx (s : State) (v : BitVec 4) : (s.setErrcode v).tx = s.tx := rfl
@[simp] theorem State.setErrcode_rx (s : State) (v : BitVec 4) : (s.setErrcode v).rx = s.rx := rfl
@[simp] theorem State.setErrcode_cfg (s : State) (v : BitVec 4) : (s.setErrcode v).cfg = s.cfg := rfl
@[simp] theorem State.setErrcode_inputs (s : State) (v : BitVec 4) : (s.setErrcode v).inputs = s.inputs := rfl

@[simp] theorem State.setTx_crc (s : State) (v : Str) : (s.setTx v).crc = s.crc := rfl
@[simp] theorem State.setTx_seq (s : State) (v : Str) : (s.setTx v).seq = s.seq := rfl
@[simp] theorem State.setTx_addr (s : State) (v : Str) : (s.setTx v).addr = s.addr := rfl
@[simp] theorem State.setTx_result (s : State) (v : Str) : (s.setTx v).result = s.result := rfl
@[simp] theorem State.setTx_errcode (s : State) (v : Str) : (s.setTx v).errcode = s.errcode := rfl
@[simp] theorem State.setTx_value (s : State) (v : Str) : (s.setTx v).value = s.value := rfl
@[simp] theorem State.setTx_tx (s : State) (v : Str) : (s.setTx v).tx = v := rfl
@[simp] theorem State.setTx_rx (s : State) (v : Str) : (s.setTx v).rx = s.rx := rfl
@[simp] theorem State.setTx_cfg (s : State) (v : Str) : (s.setTx v).cfg = s.cfg := rfl
@[simp] theorem State.setTx_inputs (s : State) (v : Str) : (s.setTx v).inputs = s.inputs := rfl

@[simp] theorem State.setRx_crc (s : State) (v : Str) : (s.setRx v).crc = s.crc := rfl
@[simp] theorem State.setRx_seq (s : State) (v : Str) : (s.setRx v).seq = s.seq := rfl
@[simp] theorem State.setRx_addr (s : State) (v : Str) : (s.setRx v).addr = s.addr := rfl
@[simp] theorem State.setRx_result (s : State) (v : Str) : (s.setRx v).result = s.result := rfl
@[simp] theorem State.setRx_errcode (s : State) (v : Str) : (s.setRx v).errcode = s.errcode := rfl
@[simp] theorem State.setRx_value (s : State) (v : Str) : (s.setRx v).value = s.value := rfl
@[simp] theorem State.setRx_tx (s : State) (v : Str) : (s.setRx v).tx = s.tx := rfl
@[simp] theorem State.setRx_rx (s : State) (v : Str) : (s.setRx v).rx = v := rfl
@[simp] theorem State.setRx_cfg (s : State) (v : Str) : (s.setRx v).cfg = s.cfg := rfl
@[simp] theorem State.setRx_inputs (s : State) (v : Str) : (s.setRx v).inputs = s.inputs := rfl

@[simp] theorem State.setInputs_crc (s : State) (v : List HostInput) : (s.setInputs v).crc = s.crc := rfl
@[simp] theorem State.setInputs_seq (s : State) (v : List HostInput) : (s.setInputs v).seq = s.seq := rfl
@[simp] theorem State.setInputs_addr (s : State) (v : List HostInput) : (s.setInputs v).addr = s.addr := rfl
@[simp] theorem State.setInputs_result (s : State) (v : List HostInput) : (s.setInputs v).result = s.result := rfl
@[simp] theorem State.setInputs_errcode (s : State) (v : List HostInput) : (s.setInputs v).errcode = s.errcode := rfl
@[simp] theorem State.setInputs_value (s : State) (v : List HostInput) : (s.setInputs v).value = s.value := rfl
@[simp] theorem State.setInputs_tx (s : State) (v : List HostInput) : (s.setInputs v).tx = s.tx := rfl
@[simp] theorem State.setInputs_rx (s : State) (v : List HostInput) : (s.setInputs v).rx = s.rx := rfl
@[simp] theorem State.setInputs_cfg (s : State) (v : List HostInput) : (s.setInputs v).cfg = s.cfg := rfl
@[simp] theorem State.setInputs_inputs (s : State) (v : List HostInput) : (s.setInputs v).inputs = v := rfl

@[simp] theorem State.succeed_crc (s : State) (v : Value) : (s.succeed v).crc = s.crc := rfl
@[simp] theorem State.succeed_seq (s : State) (v : Value) : (s.succeed v).seq = s.seq := rfl
@[simp] theorem State.succeed_addr (s : State) (v : Value) : (s.succeed v).addr = s.addr := rfl
@[simp] theorem State.succeed_result (s : State) (v : Value) : (s.succeed v).result = .ok := rfl
@[simp] theorem State.succeed_errcode (s : State) (v : Value) : (s.succeed v).errcode = s.errcode := rfl
@[simp] theorem State.succeed_value (s : State) (v : Value) : (s.succeed v).value = v := rfl
@[simp] theorem State.succeed_tx (s : State) (v : Value) : (s.succeed v).tx = s.tx := rfl
@[simp] theorem State.succeed_rx (s : State) (v : Value) : (s.succeed v).rx = s.rx := rfl
@[simp] theorem State.succeed_cfg (s : State) (v : Value) : (s.succeed v).cfg = s.cfg := rfl
@[simp] theorem State.succeed_inputs (s : State) (v : Value) : (s.succeed v).inputs = s.inputs := rfl

@[simp] theorem State.raise_crc (s : State) (r : Result) : (s.raise r).crc = s.crc := rfl
@[simp] theorem State.raise_seq (s : State) (r : Result) : (s.raise r).seq = s.seq := rfl
@[simp] theorem State.raise_addr (s : State) (r : Result) : (s.raise r).addr = s.addr := rfl
@[simp] theorem State.raise_result (s : State) (r : Result) : (s.raise r).result = r := rfl
@[simp] theorem State.raise_errcode (s : State) (r : Result) : (s.raise r).errcode = s.errcode := rfl
@[simp] theorem State.raise_value (s : State) (r : Result) : (s.raise r).value = s.value := rfl
@[simp] theorem State.raise_tx (s : State) (r : Result) : (s.raise r).tx = s.tx := rfl
@[simp] theorem State.raise_rx (s : State) (r : Result) : (s.raise r).rx = s.rx := rfl
@[simp] theorem State.raise_cfg (s : State) (r : Result) : (s.raise r).cfg = s.cfg := rfl
@[simp] theorem State.raise_inputs (s : State) (r : Result) : (s.raise r).inputs = s.inputs := rfl

/-- An update read as a record: for statements written with `{ s with … }`. -/
theorem State.succeed_eq (s : State) (v : Value) : s.succeed v = { s with result := .ok, value := v } := rfl
theorem State.raise_eq (s : State) (r : Result) : s.raise r = { s with result := r } := rfl

@[simp] theorem rxFits_none (c : Config) (n : Nat) (h : c.rxMax = none) : rxFits c n = true := by
  simp [rxFits, h]

@[simp] theorem rxFits_some (c : Config) (n m : Nat) (h : c.rxMax = some m) : rxFits c n = decide (n ≤ m) := by
  simp [rxFits, h]

theorem rxFits_zero (c : Config) : rxFits c 0 = true := by
  unfold rxFits; split <;> simp

/-- Everything the load of `RX` can do. -/
theorem loadRx_cases (l : Str) (s : State) :
    (rxFits s.cfg l.length = true ∧ loadRx l s = .next (s.setRx l)) ∨
    (rxFits s.cfg l.length = false ∧ loadRx l s = .refused .rxOverlong) := by
  unfold loadRx
  cases h : rxFits s.cfg l.length <;> simp

/-- The load of a string that fits. -/
theorem loadRx_of_fits {l : Str} {s : State} (h : rxFits s.cfg l.length = true) :
    loadRx l s = .next (s.setRx l) := by
  simp [loadRx, h]

/-- When a load answers a next state. -/
theorem loadRx_eq_next {l : Str} {s t : State} :
    loadRx l s = .next t ↔ rxFits s.cfg l.length = true ∧ t = s.setRx l := by
  rcases loadRx_cases l s with ⟨h, e⟩ | ⟨h, e⟩ <;> simp [h, e, eq_comm]

@[simp] theorem andThen_next (s : State) (f : State → Host.Outcome State Fault Refusal) :
    andThen (.next s) f = f s := rfl

@[simp] theorem andThen_refused (r : Refusal) (f : State → Host.Outcome State Fault Refusal) :
    andThen (.refused r) f = .refused r := rfl

/-- A sequence answers a next state exactly when both of its steps do. -/
theorem andThen_eq_next {o : Host.Outcome State Fault Refusal} {f : State → Host.Outcome State Fault Refusal} {t : State} :
    andThen o f = .next t ↔ ∃ s, o = .next s ∧ f s = .next t := by
  cases o <;> simp [andThen]

end Sys2Proof.Machine
end

