-- ==== Sys2Proof/Laws/Operations.lean ====
section
/-! SUPPORT. What each shared operation of the meanings can do, said once: the ends of the decoders, the body of the builders,
the cases of the parser. Later proofs cite these and unfold none of them. -/

namespace Sys2Proof.Machine

/-- Everything the end of a decoder can do: only `RESULT` and `VALUE` change (R73, R85). -/
theorem finishDecode_cases (r : Except DigitsFault (BitVec 32)) (s : State) :
    (∃ v, r = .ok v ∧ finishDecode r s = s.succeed (.u32 v)) ∨
    (∃ e, r = .error e ∧ finishDecode r s = s.raise (decodeFailure e)) := by
  cases r with
  | ok v => exact .inl ⟨v, rfl, rfl⟩
  | error e => exact .inr ⟨e, rfl, rfl⟩

/-- What the check of a decoder's operand answers (R79, R89). -/
theorem digits32_cases (x : Str) :
    (x.length ≠ 8 ∧ digits32 x = .error .badLength) ∨
    (x.length = 8 ∧ x.all isHexU = false ∧ digits32 x = .error .badDigit) ∨
    (x.length = 8 ∧ x.all isHexU = true ∧ ∃ v, unhex x = some v ∧ digits32 x = .ok (BitVec.ofNat 32 v)) := by
  by_cases h : x.length = 8
  · have hu := unhex_isSome x
    cases e : unhex x with
    | none => exact .inr (.inl ⟨h, by simpa [e] using hu.symm, by simp [digits32, h, e]⟩)
    | some v => exact .inr (.inr ⟨h, by simpa [e] using hu.symm, v, rfl, by simp [digits32, h, e]⟩)
  · exact .inl ⟨h, by simp [digits32, h]⟩

/-- The state after a request has been built (R98). -/
theorem buildRequest_eq (op tail : Str) (s : State) :
    buildRequest op tail s =
      { s with crc := checksum (requestBody s.addr s.seq op tail), tx := request s.addr s.seq op tail,
               seq := s.seq + 1#16, result := .ok, value := .str (request s.addr s.seq op tail) } := rfl

/-- Everything `BUILD_BARE` can do. -/
theorem execBuildBare_cases (op : Str) (s : State) :
    (tokenLegal s.cfg op = true ∧ execBuildBare op s = .next (buildRequest op bareTail s)) ∨
    (tokenLegal s.cfg op = false ∧ execBuildBare op s = .next (s.raise (.refused .badToken))) := by
  cases h : tokenLegal s.cfg op <;> simp [execBuildBare, h]

/-- Everything `BUILD_READ` can do. -/
theorem execBuildRead_cases (op : Str) (id : BitVec 16) (inst : BitVec 8) (s : State) :
    (tokenLegal s.cfg op = true ∧ execBuildRead op id inst s = .next (buildRequest op (readTail id inst) s)) ∨
    (tokenLegal s.cfg op = false ∧ execBuildRead op id inst s = .next (s.raise (.refused .badToken))) := by
  cases h : tokenLegal s.cfg op <;> simp [execBuildRead, h]

/-- Everything `BUILD_WRITE` can do. -/
theorem execBuildWrite_cases (op : Str) (id : BitVec 16) (inst : BitVec 8) (val : Str) (s : State) :
    (tokenLegal s.cfg op = true ∧ valueOk val = true ∧
      execBuildWrite op id inst val s = .next (buildRequest op (writeTail id inst val) s)) ∨
    (tokenLegal s.cfg op = true ∧ valueOk val = false ∧
      execBuildWrite op id inst val s = .next (s.raise (.refused .badValue))) ∨
    (tokenLegal s.cfg op = false ∧
      execBuildWrite op id inst val s = .next (s.raise (.refused .badToken))) := by
  cases h : tokenLegal s.cfg op <;> cases hv : valueOk val <;> simp [execBuildWrite, h, hv]

/-- Everything step 2 of the parser can answer. -/
theorem parseMarker_cases (r : Str) :
    (∃ z d rest, r = z :: d :: rest ∧ z = ch0 ∧ isDecimal d = true ∧
      parseMarker r = .device ((d - ch0).setWidth 4)) ∨
    parseMarker r = .framing .badErrorFrame := by
  match r with
  | [] => exact .inr rfl
  | [_] => exact .inr rfl
  | z :: d :: rest =>
    by_cases h : (z == ch0 && isDecimal d) = true
    · refine .inl ⟨z, d, rest, rfl, ?_, ?_, by simp only [parseMarker, h, if_true]⟩ <;> simp_all
    · exact .inr (by simp only [parseMarker, h]; rfl)

/-- Everything steps 3 to 5 of the parser can answer. -/
theorem parseData_cases (pre : Option Byte) (rx : Str) :
    parseData pre rx = .framing .badPreamble ∨ parseData pre rx = .framing .badAlphabet ∨
    parseData pre rx = .mismatch (checksum (beforeChecksum rx)) ∨
    parseData pre rx = .payload (checksum (beforeChecksum rx)) ((beforeChecksum rx).drop Config.hdrLen) := by
  unfold parseData
  split
  · split
    · split
      · simp
      · simp only []; split <;> simp
    · simp
  · simp

/-- Everything the parser can answer (R102). -/
theorem parseResponse_cases (pre : Option Byte) (rx : Str) :
    (∃ c, parseResponse pre rx = .framing c) ∨ (∃ d, d < 10#4 ∧ parseResponse pre rx = .device d) ∨
    parseResponse pre rx = .mismatch (checksum (beforeChecksum rx)) ∨
    parseResponse pre rx = .payload (checksum (beforeChecksum rx)) ((beforeChecksum rx).drop Config.hdrLen) := by
  have digit : ∀ d : Byte, isDecimal d = true → (d - ch0).setWidth 4 < 10#4 := by decide
  unfold parseResponse
  split
  · exact .inl ⟨_, rfl⟩
  · split
    · rcases parseData_cases pre rx with h | h | h | h
      · exact .inl ⟨_, h⟩
      · exact .inl ⟨_, h⟩
      · exact .inr (.inr (.inl h))
      · exact .inr (.inr (.inr h))
    · rename_i after _
      rcases parseMarker_cases after with ⟨_, d, _, _, _, hd, h⟩ | h
      · exact .inr (.inl ⟨_, digit d hd, h⟩)
      · exact .inl ⟨_, h⟩

end Sys2Proof.Machine
end

