-- ==== Sys2Proof/Laws/PerInstr.lean ====
section
/-! SUPPORT. Statements about every instruction as syntax, one lemma per constructor: the bits and the length the table gives
its row stand in its encoding. -/

namespace Sys2Proof.Laws.TableBits

open Machine

/-- A command with the `OPSEL` code of its row (opcode_table.json, mask 0xF). -/
def isCommand (code : BitVec 4) : PortWord → Prop
  | .command c => c.opsel = code
  | .line _ => False

/-- A frame whose byte 0 is the preamble of its row (opcode_table.json, match 0x23, mask 0xFF), of the given length. -/
def isRequestLine (n : Nat) : PortWord → Prop
  | .command _ => False
  | .line s => s.head? = some 0x23#8 ∧ s.length = n

/-- A frame of at least 11 characters (opcode_table.json, length_chars). -/
def isResponseLine : PortWord → Prop
  | .command _ => False
  | .line s => 11 ≤ s.length

/-- What the table fixes of an instruction's encoding. -/
def Statement (i : Instr) : Prop :=
  match i with
  | .crcClr => isCommand 0x0 (encode i)
  | .crcUpd _ => isCommand 0x1 (encode i)
  | .crcRd => isCommand 0x2 (encode i)
  | .checksum _ => isCommand 0x3 (encode i)
  | .encU8 _ => isCommand 0x4 (encode i)
  | .encU16 _ => isCommand 0x5 (encode i)
  | .encI32 _ => isCommand 0x6 (encode i)
  | .decI32 _ => isCommand 0x7 (encode i)
  | .encF32 _ => isCommand 0x8 (encode i)
  | .decF32 _ => isCommand 0x9 (encode i)
  | .buildBare _ => isCommand 0xA (encode i)
  | .buildRead _ _ _ => isCommand 0xB (encode i)
  | .buildWrite _ _ _ _ => isCommand 0xC (encode i)
  | .parseRsp => isCommand 0xD (encode i)
  | .setAddr _ => isCommand 0xE (encode i)
  | .reservedF => isCommand 0xF (encode i)
  | .reqBare _ _ op => isRequestLine (11 + op.length) (encode i)
  | .reqRead _ _ op _ _ => isRequestLine (17 + op.length) (encode i)
  | .reqWrite _ _ op _ _ val => isRequestLine (17 + op.length + val.length) (encode i)
  | .rspData _ _ _ _ => isResponseLine (encode i)
  | .rspError _ _ _ => ∀ c, wellFormed c i = true → isResponseLine (encode i)

theorem crcClr : Statement .crcClr := rfl
theorem crcUpd (b : Byte) : Statement (.crcUpd b) := rfl
theorem crcRd : Statement .crcRd := rfl
theorem checksum (s : Str) : Statement (.checksum s) := rfl
theorem encU8 (v : BitVec 8) : Statement (.encU8 v) := rfl
theorem encU16 (v : BitVec 16) : Statement (.encU16 v) := rfl
theorem encI32 (v : BitVec 32) : Statement (.encI32 v) := rfl
theorem decI32 (s : Str) : Statement (.decI32 s) := rfl
theorem encF32 (v : BitVec 32) : Statement (.encF32 v) := rfl
theorem decF32 (s : Str) : Statement (.decF32 s) := rfl
theorem buildBare (op : Str) : Statement (.buildBare op) := rfl
theorem buildRead (op : Str) (id : BitVec 16) (inst : BitVec 8) : Statement (.buildRead op id inst) := rfl
theorem buildWrite (op : Str) (id : BitVec 16) (inst : BitVec 8) (val : Str) :
    Statement (.buildWrite op id inst val) := rfl
theorem parseRsp : Statement .parseRsp := rfl
theorem setAddr (a : BitVec 8) : Statement (.setAddr a) := rfl
theorem reservedF : Statement .reservedF := rfl

theorem reqBare (a : BitVec 8) (q : BitVec 16) (op : Str) : Statement (.reqBare a q op) :=
  ⟨rfl, by simp⟩

theorem reqRead (a : BitVec 8) (q : BitVec 16) (op : Str) (id : BitVec 16) (inst : BitVec 8) :
    Statement (.reqRead a q op id inst) :=
  ⟨rfl, by simp; omega⟩

theorem reqWrite (a : BitVec 8) (q : BitVec 16) (op : Str) (id : BitVec 16) (inst : BitVec 8) (val : Str) :
    Statement (.reqWrite a q op id inst val) :=
  ⟨rfl, by simp; omega⟩

theorem rspData (x : Byte) (a : BitVec 8) (q : BitVec 16) (p : Str) : Statement (.rspData x a q p) := by
  simp [Statement, isResponseLine, encode]

theorem rspError (before : Str) (d : BitVec 4) (after : Str) : Statement (.rspError before d after) := by
  intro c h
  simp only [wellFormed, Bool.and_eq_true, decide_eq_true_eq] at h
  simpa [isResponseLine, encode] using h.2

end Sys2Proof.Laws.TableBits
end

