-- ==== Sys2Proof/Laws/Safety.lean ====
section
/-! SUPPORT. What each part of the host's duties can answer, said once (45_session.md R115, R116). -/

namespace Sys2Proof.Safety

open Machine

/-- The three rows that build, and when they do. -/
theorem builds_eq_true {c : Config} {i : Instr} :
    builds c i = true ↔
      (∃ op, i = .buildBare op ∧ tokenLegal c op = true) ∨
      (∃ op id inst, i = .buildRead op id inst ∧ tokenLegal c op = true) ∨
      (∃ op id inst val, i = .buildWrite op id inst val ∧ tokenLegal c op = true ∧ valueOk val = true) := by
  cases i <;> simp [builds, buildLegal]

/-- `SET_ADDR` keeps the duties only with the target's address, and marks it as issued. -/
theorem dutySetAddr_eq_some {target a : BitVec 8} {d d' : Duty} :
    dutySetAddr target a d = some d' ↔
      a = target ∧ d.addressed = false ∧ d.built = false ∧ d' = { d with addressed := true } := by
  unfold dutySetAddr
  split
  · next h => simp only [h, true_and, Option.some.injEq]; exact eq_comm
  · next h => simp only [reduceCtorEq, false_iff]; exact fun g => h ⟨g.1, g.2.1, g.2.2.1⟩

/-- A `BUILD_*` keeps the duties only for an addressed device and with nothing in flight. -/
theorem dutyBuild_eq_some {c : Config} {target : BitVec 8} {legal : Bool} {d d' : Duty} :
    dutyBuild c target legal d = some d' ↔
      (d.addressed = true ∨ c.addrReset = target) ∧ d.flight = .idle ∧
        d' = { d with built := true, flight := if legal then .awaiting else .idle } := by
  unfold dutyBuild
  split
  · next h => simp only [h, true_and, Option.some.injEq]; exact eq_comm
  · next h => simp only [reduceCtorEq, false_iff]; exact fun g => h ⟨g.1, g.2.1⟩

/-- A response or a timeout changes nothing but where the flight stands. -/
theorem dutyReceive_keeps {next : Flight} {d d' : Duty} (h : dutyReceive next d = some d') :
    d'.addressed = d.addressed ∧ d'.built = d.built := by
  unfold dutyReceive at h
  split at h
  · cases h; exact ⟨rfl, rfl⟩
  · cases h
  · cases h; exact ⟨rfl, rfl⟩

end Sys2Proof.Safety
end

