-- ==== Sys2Proof/Laws/Session.lean ====
section
/-! SUPPORT. What the session's operations can do (45_session.md R113, R114, R117): the small lemmas of their definitions. -/

namespace Sys2Proof.Machine

@[simp] theorem inPhase_next (p : Phase) (s : State) : inPhase p (.next s) = .next { phase := p, block := s } := rfl

/-- A session goes on exactly when its block does. -/
theorem inPhase_eq_next {p : Phase} {o : Host.Outcome State Fault Refusal} {y : Session} :
    inPhase p o = .next y ↔ ∃ s, o = .next s ∧ y = { phase := p, block := s } := by
  cases o <;> simp [inPhase, eq_comm]

/-- Everything a connect can do: nothing from `Connected` or with a table that has a gap; else the block is reset, and the
handshake decides (R147). -/
theorem sessionConnect_cases (t : Catalogue) (a : BitVec 8) (handshake : Bool) (r1 r2 r3 : Option Str) (x : Session) :
    sessionConnect t a handshake r1 r2 r3 x = none ∨
    (x.phase = .disconnected ∧ handshake = false ∧ sessionConnect t a handshake r1 r2 r3 x =
      some (.next { phase := .disconnected, block := newSession x.block })) ∨
    (x.phase = .disconnected ∧ handshake = true ∧ ∃ w1 w2 op,
      (t .disableFlashPersistence).request none = some w1 ∧ (t .setRampStartPoint).request none = some w2 ∧
      (t .identify).token = some op ∧ sessionConnect t a handshake r1 r2 r3 x =
        some (inPhase .connected (connectSequence a w1 w2 op r1 r2 r3 (newSession x.block)))) := by
  unfold sessionConnect
  cases hp : x.phase
  · cases (t .disableFlashPersistence).request none <;> cases (t .setRampStartPoint).request none <;>
      cases (t .identify).token <;> cases handshake <;> simp
  · exact .inl rfl

@[simp] theorem sessionClose_phase (x : Session) : (sessionClose x).phase = .disconnected := rfl
@[simp] theorem sessionClose_block (x : Session) : (sessionClose x).block = x.block := rfl

/-- What goes on only after `OK`. -/
theorem ifOk_cases (f : State → Host.Outcome State Fault Refusal) (s : State) :
    (s.result = .ok ∧ ifOk f s = f s) ∨ (s.result ≠ .ok ∧ ifOk f s = .next s) := by
  by_cases h : s.result = .ok <;> simp [ifOk, h]

/-- Everything a logical operation of a session can do. -/
theorem sessionLogical_cases (x : Session) (r : LogicalRequest) (kind : ValueKind) (reply : Option Str) :
    (x.phase = .connected ∧ sessionLogical x r kind reply = some (inPhase .connected (runLogical r kind reply x.block))) ∨
    (x.phase = .disconnected ∧ sessionLogical x r kind reply = none) := by
  cases h : x.phase <;> simp [sessionLogical, h]

/-- A named operation is a logical operation of the session with its row's request and kind, if the row gives them. -/
theorem sessionCall_eq_some {t : Catalogue} {n : LogicalName} {v : Option (BitVec 32)} {reply : Option Str} {x : Session}
    {o : Host.Outcome Session Fault Refusal} :
    sessionCall t n v reply x = some o ↔
      ∃ r kind, (t n).request v = some r ∧ (t n).answerKind = some kind ∧ sessionLogical x r kind reply = some o := by
  unfold sessionCall
  cases (t n).request v <;> cases (t n).answerKind <;> simp

end Sys2Proof.Machine
end

