-- ==== Sys2Proof/Machine/Binary32.lean ====
section
/-! DEFINITION. What a 32-bit pattern means to the host as an IEEE-754 binary32, 42_hexfloat.md R91. The block never looks
at it: no operation calls this (R85, R92). PRESUMED (notes/assumptions/16.md): the spec takes the layout from general
knowledge. -/

namespace Sys2Proof.Machine

/-- The meaning of a pattern: the exact number `m * 2^e` with its sign, zero having one too (R91: 0.0 and -0.0), an infinity,
or a NaN. -/
inductive Binary32 where
  | finite (negative : Bool) (m : Nat) (e : Int)
  | infinity (negative : Bool)
  | nan
  deriving DecidableEq, Repr

/-- R91: sign bit 31, biased exponent bits 30..23, fraction bits 22..0. A normal number is
`(-1)^s * 2^(e-127) * (1 + f / 2^23)`, that is `(2^23 + f) * 2^(e-150)`; a zero or subnormal is `f * 2^(-149)`. -/
def binary32 (p : BitVec 32) : Binary32 :=
  let e := (p.extractLsb' 23 8).toNat
  let f := (p.extractLsb' 0 23).toNat
  if e = 255 then (if f = 0 then .infinity p.msb else .nan)
  else if e = 0 then .finite p.msb f (-149)
  else .finite p.msb (8388608 + f) (e - 150)

end Sys2Proof.Machine
end

