-- ==== Sys2Proof/Tests/Slice0.lean ====
section
/-! SUPPORT. The model's own tests: the well-formedness smoke, every row's decoding from words written out by hand from the
spec, one or two operations per instruction with the expected values of spec/95_test_vectors.md, and a witness for the
hypotheses of every obligation that has any. -/

namespace Sys2Proof.Tests

open Machine

/-- A string of the spec as bytes. -/
def str (s : String) : Str := s.toList.map (fun c => BitVec.ofNat 8 c.toNat)

/-- The next state of an outcome, if it is one. -/
def nextOf (o : Host.Outcome State Fault Refusal) : Option State :=
  match o with
  | .next s => some s
  | .fault _ => none
  | .refused _ => none

theorem nextOf_eq {o : Host.Outcome State Fault Refusal} {t : State} : nextOf o = some t ↔ o = .next t := by
  cases o <;> simp [nextOf]

/-- What an instruction leaves, seen through one function of the next state. -/
def after {α : Type} (i : Instr) (s : State) (f : State → α) : Option α := (nextOf (exec i s)).map f

/-- The state of the vectors: address 02, a sequence number, a running value to see who writes it. -/
def st (q : BitVec 16) : State := { State.reset with addr := 0x02, seq := q, crc := 0x1234 }

/-- The same with a received string, as the lines of V5 start. -/
def received (l : Str) : State := { st 0 with rx := l }

/-- `RESULT`, `CRC`, `ERRCODE` and `VALUE` as V5 shows them. -/
def seen (s : State) : Result × BitVec 16 × Option (BitVec 4) × Option Value :=
  (s.result, s.crc, s.readErrcode, s.readValue)

/-! ### Well-formedness: an ill-formed term for each check -/

theorem test_wf_refuses_empty_token : wellFormed Config.default (.reqBare 2 0 (str "")) = false := by decide
theorem test_wf_refuses_long_token : wellFormed Config.default (.reqRead 2 0 (str "ABCD") 1000 1) = false := by decide
theorem test_wf_refuses_lowercase_token : wellFormed Config.default (.reqBare 2 0 (str "?vr")) = false := by decide
theorem test_wf_refuses_short_value : wellFormed Config.default (.reqWrite 2 0 (str "VS") 108 1 (str "0000001")) = false := by decide
theorem test_wf_refuses_lowercase_value : wellFormed Config.default (.reqWrite 2 0 (str "VS") 108 1 (str "0000000a")) = false := by decide
theorem test_wf_refuses_marker_preamble : wellFormed Config.default (.rspData chPlus 2 0 (str "00")) = false := by decide
theorem test_wf_refuses_marker_payload : wellFormed Config.default (.rspData (0x21#8) 2 0 (str "TEC+Plus")) = false := by decide
theorem test_wf_refuses_request_as_response : wellFormed Config.default (.rspData chHash 2 0 (str "?VR03E801")) = false := by decide
theorem test_wf_refuses_marker_before : wellFormed Config.default (.rspError (str "!0200+") 5 (str "5ED6")) = false := by decide
theorem test_wf_refuses_code_ten : wellFormed Config.default (.rspError (str "!020001") 10 (str "5ED6")) = false := by decide
theorem test_wf_refuses_short_error : wellFormed Config.default (.rspError (str "!02000") 5 (str "1")) = false := by decide
theorem test_wf_accepts_operations : wellFormed Config.default (.buildBare (str "?vr")) = true := by decide

/-! ### Decoding: one word per row, written out from R52 and R48 to R50 -/

theorem test_decode_crcClr : decode Config.default (.command { opsel := 0b0000 }) = .ok .crcClr := by decide
theorem test_decode_crcUpd : decode Config.default (.command { opsel := 0b0001, byte := 0x31 }) = .ok (.crcUpd 0x31) := by decide
theorem test_decode_crcRd : decode Config.default (.command { opsel := 0b0010 }) = .ok .crcRd := by decide
theorem test_decode_checksum :
    decode Config.default (.command { opsel := 0b0011, str := [0x41] }) = .ok (.checksum [0x41]) := by decide
theorem test_decode_encU8 : decode Config.default (.command { opsel := 0b0100, byte := 0xFF }) = .ok (.encU8 0xFF) := by decide
theorem test_decode_encU16 : decode Config.default (.command { opsel := 0b0101, half := 1000 }) = .ok (.encU16 1000) := by decide
theorem test_decode_encI32 :
    decode Config.default (.command { opsel := 0b0110, word := 0x80000000 }) = .ok (.encI32 0x80000000) := by decide
theorem test_decode_decI32 :
    decode Config.default (.command { opsel := 0b0111, str := [0x31] }) = .ok (.decI32 [0x31]) := by decide
theorem test_decode_encF32 :
    decode Config.default (.command { opsel := 0b1000, word := 0x3F800000 }) = .ok (.encF32 0x3F800000) := by decide
theorem test_decode_decF32 :
    decode Config.default (.command { opsel := 0b1001, str := [0x31] }) = .ok (.decF32 [0x31]) := by decide
theorem test_decode_buildBare :
    decode Config.default (.command { opsel := 0b1010, str := [0x5A, 0x5A] }) = .ok (.buildBare [0x5A, 0x5A]) := by decide
theorem test_decode_buildRead :
    decode Config.default (.command { opsel := 0b1011, str := [0x3F], half := 1000, byte := 1 }) = .ok (.buildRead [0x3F] 1000 1) := by
  decide
theorem test_decode_buildWrite :
    decode Config.default (.command { opsel := 0b1100, str := [0x3F], half := 108, byte := 1, val := [0x30] }) =
      .ok (.buildWrite [0x3F] 108 1 [0x30]) := by decide
theorem test_decode_parseRsp : decode Config.default (.command { opsel := 0b1101 }) = .ok .parseRsp := by decide
theorem test_decode_setAddr : decode Config.default (.command { opsel := 0b1110, byte := 2 }) = .ok (.setAddr 2) := by decide
theorem test_decode_reservedF : decode Config.default (.command { opsel := 0b1111 }) = .ok .reservedF := by decide
/-- V4: `# 02 0002 ZZ 4B8F`. -/
theorem test_decode_reqBare : decode Config.default (.line (str "#020002ZZ4B8F")) = .ok (.reqBare 2 2 (str "ZZ")) := by decide
/-- E8: `# 02 0000 ?VR 03E8 01 1DCA`. -/
theorem test_decode_reqRead :
    decode Config.default (.line (str "#020000?VR03E8011DCA")) = .ok (.reqRead 2 0 (str "?VR") 1000 1) := by decide
/-- V4: `# 02 0001 VS 006C 01 00000001 5A6A`. -/
theorem test_decode_reqWrite :
    decode Config.default (.line (str "#020001VS006C01000000015A6A")) = .ok (.reqWrite 2 1 (str "VS") 108 1 (str "00000001")) := by
  decide
/-- R102: `! 02 0000 41C80000 FE00`. -/
theorem test_decode_rspData :
    decode Config.default (.line (str "!02000041C80000FE00")) = .ok (.rspData 0x21 2 0 (str "41C80000")) := by decide
/-- R105: `!020001 + 0 5 5ED6`. -/
theorem test_decode_rspError :
    decode Config.default (.line (str "!020001+055ED6")) = .ok (.rspError (str "!020001") 5 (str "5ED6")) := by decide
theorem test_decode_rejects_short : decode Config.default (.line (str "!0200017BD")) = .error .short := by decide
theorem test_decode_rejects_code_ten : decode Config.default (.line (str "!020001+10ABCD")) = .error .badErrorFrame := by decide
theorem test_decode_rejects_lowercase : decode Config.default (.line (str "!02000041C80000fe00")) = .error .badAlphabet := by decide
theorem test_decode_rejects_checksum : decode Config.default (.line (str "!02000041C80000FE01")) = .error .badChecksum := by decide
theorem test_table_words : (List.range 16).map (fun w => (decodeTableWord 8 w).isSome) = List.replicate 16 true := by
  decide

/-! ### The Checksum Engine (V1) -/

theorem test_crcClr : after .crcClr (st 0) seen = some (.ok, 0x0000, none, none) := by decide
theorem test_crcUpd : after (.crcUpd 0x32) { st 0 with crc := 0x2672 } (·.crc) = some 0x20B5 := by decide
theorem test_crcUpd_all_ones : after (.crcUpd 0x00) { st 0 with crc := 0xFFFF } (·.crc) = some 0xE1F0 := by decide
theorem test_crcRd : after .crcRd (st 0) seen = some (.ok, 0x1234, none, some (.u16 0x1234)) := by decide
theorem test_checksum_check_value :
    after (.checksum (str "123456789")) (st 0) seen = some (.ok, 0x31C3, none, some (.u16 0x31C3)) := by decide
theorem test_checksum_of_frame :
    after (.checksum (str "#020000?VR03E8011DCA")) (st 0) (·.crc) = some 0x585D := by decide
/-- V1's spot values of the table. -/
theorem test_table_spot_values :
    [0x00#8, 0x02, 0x0F, 0x10, 0x31, 0x7F, 0x80, 0xFE, 0xFF].map crcTable =
      [0x0000, 0x2042, 0xF1EF, 0x1231, 0x2672, 0x8F78, 0x9188, 0x0ED1, 0x1EF0] := by decide

/-! ### The Value Codec (V2, V3) -/

theorem test_encU8 : after (.encU8 10) (st 0) (·.readValue) = some (some (.str (str "0A"))) := by decide
theorem test_encU16 : after (.encU16 0x0130) (st 0) (·.readValue) = some (some (.str (str "0130"))) := by decide
theorem test_encI32 : after (.encI32 0xFFFFFFFE) (st 0) (·.readValue) = some (some (.str (str "FFFFFFFE"))) := by decide
theorem test_decI32 : after (.decI32 (str "80000000")) (st 0) (·.readValue) = some (some (.u32 0x80000000)) := by decide
theorem test_decI32_strict :
    [after (.decI32 (str "0000000a")) (st 0) (·.result), after (.decI32 (str "+0000005")) (st 0) (·.result),
     after (.decI32 (str "")) (st 0) (·.result), after (.decI32 (str "000000002")) (st 0) (·.result)] =
      [some (.decodeError .badDigit), some (.decodeError .badDigit), some (.decodeError .badLength),
       some (.decodeError .badLength)] := by decide
theorem test_encF32_msb :
    after (.encF32 0xC3889333) (st 0) (·.readValue) = some (some (.str (str "C3889333"))) := by decide
theorem test_encF32_lsb :
    after (.encF32 0xC3889333) { st 0 with cfg := { Config.default with floatOrder := .lsbFirst } } (·.readValue) =
      some (some (.str (str "339388C3"))) := by decide
theorem test_decF32_nan : after (.decF32 (str "FFC12345")) (st 0) (·.readValue) = some (some (.u32 0xFFC12345)) := by
  decide
theorem test_decF32_lowercase : after (.decF32 (str "41c80000")) (st 0) (·.result) = some (.decodeError .badDigit) := by
  decide
/-- R77: int32 at the boundary, and what is no int32. -/
theorem test_signed_boundary :
    (unsigned32 (-2147483648), unsigned32 2147483648, signed32 0xFFFFFFFF, unsignedOperand 16 70000) =
      (some 0x80000000, none, -1, none) := by decide
/-- R91: 25.0 = 13107200 / 2^19, -25.0, infinity, the smallest subnormal, a NaN. -/
theorem test_binary32 :
    [binary32 0x41C80000, binary32 0xC1C80000, binary32 0x7F800000, binary32 0x00000001, binary32 0x7FC00000] =
      [.finite false 13107200 (-19), .finite true 13107200 (-19), .infinity false, .finite false 1 (-149), .nan] := by decide
/-- R91, V3: 0.0 and -0.0 are two values, "sign kept". -/
theorem test_binary32_zeros :
    (binary32 0x00000000, binary32 0x80000000) = (.finite false 0 (-149), .finite true 0 (-149)) := by decide

/-! ### Building requests (V4, P6) -/

theorem test_setAddr : after (.setAddr 0x0A) (st 5) (fun s => (s.addr, s.seq, s.result)) = some (0x0A, 5, .ok) := by decide
theorem test_buildBare_wraps :
    after (.buildBare (str "ZZ")) (st 0xFFFF) (fun s => (s.tx, s.seq, s.crc)) =
      some (str "#02FFFFZZ32D5", 0x0000, 0x32D5) := by decide
theorem test_buildBare_refused :
    after (.buildBare (str "V+")) (st 5) (fun s => (s.result, s.seq, s.crc, s.tx)) =
      some (.refused .badToken, 5, 0x1234, []) := by decide
theorem test_buildRead_pads :
    after (.buildRead (str "?VR") 1000 1) (st 7) (·.readValue) = some (some (.str (str "#020007?VR03E8010130"))) := by
  decide
theorem test_buildRead_refused :
    after (.buildRead (str "?vr") 1000 1) (st 1) id = some { st 1 with result := .refused .badToken } := by decide
theorem test_buildWrite :
    after (.buildWrite (str "VS") 108 1 (str "00000001")) (st 1) (fun s => (s.tx, s.seq)) =
      some (str "#020001VS006C01000000015A6A", 2) := by decide
theorem test_buildWrite_refusals :
    [after (.buildWrite (str "VS") 108 1 (str "0000000a")) (st 5) (·.result),
     after (.buildWrite (str "vs") 108 1 (str "0000000a")) (st 5) (·.result)] =
      [some (.refused .badValue), some (.refused .badToken)] := by decide
theorem test_reservedF : after .reservedF (st 5) id = some { st 5 with result := .refused .reservedOp } := by decide

/-! ### Parsing responses (V5) -/

theorem test_parseRsp_ok_and_mismatch :
    [after .parseRsp (received (str "!02000041C80000FE00")) seen, after .parseRsp (received (str "!02000041C80000FE01")) seen,
     after .parseRsp (received (str "!0200017BDD")) seen] =
      [some (.ok, 0xFE00, none, some (.str (str "41C80000"))), some (.checksumMismatch, 0xFE00, none, none),
       some (.ok, 0x7BDD, none, some (.str []))] := by decide
/-- Each failure; the last with `RSP_PREAMBLE` set to `!` (V5's last note). -/
theorem test_parseRsp_errors :
    [after .parseRsp (received (str "xx0200+07yyyy")) seen, after .parseRsp (received (str "!020001+05+09XXXX")) seen,
     after .parseRsp (received (str "!02000100000+0")) seen, after .parseRsp (received (str "!02000a41C800001904")) seen,
     after .parseRsp (received (str "+07")) seen,
     after .parseRsp { received (str "#02000041C80000B3D9") with cfg := { Config.default with rspPreamble := some 0x21 } } seen] =
      [some (.deviceError, 0x1234, some 7, none), some (.deviceError, 0x1234, some 5, none),
       some (.framingError .badErrorFrame, 0x1234, none, none), some (.framingError .badAlphabet, 0x1234, none, none),
       some (.framingError .short, 0x1234, none, none), some (.framingError .badPreamble, 0x1234, none, none)] := by decide
/-! ### Frames, events and the step -/

theorem test_reqBare : after (.reqBare 2 2 (str "ZZ")) (st 0) (·.rx) = some (str "#020002ZZ4B8F") := by decide
theorem test_reqRead :
    after (.reqRead 2 0 (str "?VR") 1000 1) (st 0) (·.rx) = some (str "#020000?VR03E8011DCA") := by decide
theorem test_reqWrite :
    after (.reqWrite 2 1 (str "VS") 108 1 (str "00000001")) (st 0) (·.rx) = some (str "#020001VS006C01000000015A6A") := by
  decide
theorem test_rspData : after (.rspData 0x21 2 3 (str "TEC-1091 v3.00")) (st 0) (·.rx) =
    some (str "!020003TEC-1091 v3.008ECA") := by decide
theorem test_rspError : after (.rspError (str "!020001") 5 (str "5ED6")) (st 0) (·.rx) =
    some (str "!020001+055ED6") := by decide
/-- P4: the timeout, with what it empties. -/
theorem test_timeout :
    nextOf (step { received (str "abc") with inputs := [.timeout] }) =
      some { st 0 with result := .transportTimeout } := by decide
/-- R57: a string that is no frame is received all the same. -/
theorem test_any_string_is_received :
    nextOf (step { st 0 with inputs := [.word (.line (str "+07"))] }) = some (received (str "+07")) := by decide
theorem test_step_runs_first_word :
    nextOf (step (State.reset.withFetchWord 8 0xD)) = some { State.reset with result := .framingError .short } := by decide
/-- V6. -/
theorem test_decStatus : [decStatus 2, decStatus 5, decStatus 0xFFFFFFFF] =
    [.ok .stable, .error .unknownStatus, .error .unknownStatus] := by decide
/-- P2 as a logical operation: 25.0 is read. -/
theorem test_logical_read :
    (nextOf (runLogical (.read (str "?VR") 1000 1) .float32 (some (str "!02000041C80000FE00")) (st 0))).map
      (fun s => (s.readValue, s.seq, s.crc)) = some (some (.u32 0x41C80000), 1, 0xFE00) := by decide

/-- R119: the request of the object temperature; a gap gives no request. -/
theorem test_catalogue_requests :
    ((catalogue .objectTemperature).request none, (catalogue .sinkTemperature).request none) =
      (some (.read (str "?VR") 1000 1), none) := by decide
/-- P2 as a named operation (R113), its answer to the caller, and a device error with its code. -/
theorem test_session_call :
    ((sessionCall catalogue .objectTemperature none (some (str "!02000041C80000FE00")) { phase := .connected, block := st 0 }).map
        fun o => match o with
          | .next y => (decide (y.phase = .connected), sessionAnswer catalogue .objectTemperature y)
          | _ => (false, none)) = some (true, some (.ok (.float32 0x41C80000))) ∧
    answerOf .float32 false { st 0 with result := .deviceError, errcode := 5 } =
      .error { result := .deviceError, code := some 5 } := by decide
/-- R120: code 2 is stable, code 5 is a decode error. -/
theorem test_status_answers :
    (int32Answer true 2, int32Answer true 5) =
      (.ok (.status .stable), .error { result := .decodeError .unknownStatus, code := none }) := by decide
/-- R115, R116: what a dutiful host does, and its breaches: no `SET_ADDR`, `SET_ADDR` after a refused build, a second build in
flight though refused, one after a `PARSE_RSP` without a response. -/
theorem test_duties :
    (let set : HostInput := .word (.command { opsel := 0xE, byte := 2 })
     let build : HostInput := .word (.command { opsel := 0xA, str := str "ZZ" })
     let bad : HostInput := .word (.command { opsel := 0xA, str := str "zz" })
     let parse : HostInput := .word (.command { opsel := 0xD })
     let rx : HostInput := .word (.line (str "!0200017BDD"))
     [[set, build, rx, parse, build, .timeout, bad, build], [build], [bad, set], [set, bad, set], [set, build, bad],
      [set, build, parse, build], [set, build, rx, rx], [set, build, .newSession, set, build]].map
       (Safety.obeys Config.default 2 .fresh)) =
      [true, false, false, false, false, false, false, true] := by decide

/-! ### Witnesses: the hypotheses of the obligations are met -/

theorem witness_OldCrcOnlyReadByUpdAndRd :
    (∀ b, Instr.parseRsp ≠ .crcUpd b) ∧ Instr.parseRsp ≠ .crcRd ∧
      (nextOf (exec .parseRsp (received (str "!0200017BDD")))).isSome = true := by
  refine ⟨?_, ?_, ?_⟩
  · intro b; simp
  · decide
  · decide

theorem witness_ChecksumAppendsAndIsLinear : (str "ABC").length = (str "CBA").length := by decide

theorem witness_AlteredByteAltersChecksum : (0x41#8 : Byte) ≠ 0x42#8 := by decide

theorem witness_EncodedFieldsHaveFixedWidth :
    (∃ v, Instr.encU8 255 = .encU8 v ∧ (2 : Nat) = 2) ∧ (nextOf (exec (.encU8 255) (st 0))).isSome = true ∧
    (∃ v, Instr.encU16 0 = .encU16 v ∧ (4 : Nat) = 4) ∧ (nextOf (exec (.encU16 0) (st 0))).isSome = true ∧
    (∃ v, Instr.encI32 0 = .encI32 v ∧ (8 : Nat) = 8) ∧ (nextOf (exec (.encI32 0) (st 0))).isSome = true ∧
    (∃ v, Instr.encF32 0 = .encF32 v ∧ (8 : Nat) = 8) ∧ (nextOf (exec (.encF32 0) (st 0))).isSome = true :=
  ⟨⟨_, rfl, rfl⟩, by decide, ⟨_, rfl, rfl⟩, by decide, ⟨_, rfl, rfl⟩, by decide, ⟨_, rfl, rfl⟩, by decide⟩

theorem witness_UnhexInvertsHex : 65535 < 16 ^ 4 ∧ unhex (str "FFFF") = some 65535 := by decide

/-- All three clauses at their boundaries: 7 and 9 characters; `/`, `:`, `@`, `G` beside the digit ranges; the largest number. -/
theorem witness_DecI32ReadsEightDigits :
    (str "0000000").length ≠ 8 ∧ (str "000000002").length ≠ 8 ∧
    ([str "0000000/", str "0000000:", str "@0000000", str "G0000000"].all
      (fun x => decide (x.length = 8) &&
        x.any (fun c => decide (¬((0x30#8 ≤ c ∧ c ≤ 0x39#8) ∨ (0x41#8 ≤ c ∧ c ≤ 0x46#8)))))) = true ∧
    (str "FFFFFFFF").length = 8 ∧ (∀ c ∈ str "FFFFFFFF", (0x30#8 ≤ c ∧ c ≤ 0x39#8) ∨ (0x41#8 ≤ c ∧ c ≤ 0x46#8)) := by
  decide

theorem witness_DecF32ReadsOrderedBytes :
    (str "41C8000").length ≠ 8 ∧ ((str "41c80000").length = 8 ∧ ∃ c ∈ str "41c80000", isHexU c = false) ∧
    ((str "41C80000").length = 8 ∧ ∀ c ∈ str "41C80000", isHexU c = true) ∧
    State.reset.cfg.floatOrder = .msbFirst ∧
    (State.ofConfig { Config.default with floatOrder := .lsbFirst }).cfg.floatOrder = .lsbFirst := by
  decide

theorem witness_FloatEncoderRendersOrderedBytes :
    State.reset.cfg.floatOrder = .msbFirst ∧
    (State.ofConfig { Config.default with floatOrder := .lsbFirst }).cfg.floatOrder = .lsbFirst := by decide

theorem witness_IntegerRoundTrips :
    ((-2147483648 : Int) ≤ -2147483648 ∧ (-2147483648 : Int) ≤ 2147483647) ∧
    after (.decI32 (str "7FFFFFFF")) (st 0) (·.result) = some .ok ∧ decU16 (str "FE00") = some 0xFE00 ∧
    unhexField 2 (str "0A") = some 0x0A := by decide

theorem witness_FloatRoundTrips : after (.decF32 (str "7FC00000")) (st 0) (·.result) = some .ok := by decide

/-- Another instruction, and the three builds. -/
theorem witness_SetAddrFixesRequestAddress :
    ((nextOf (exec .crcRd (st 0))).isSome = true ∧ after (.buildBare (str "?")) (st 0) (·.result) = some .ok) ∧
    after (.buildRead (str "ZZ") 0 0) (st 0) (·.result) = some .ok ∧
    after (.buildWrite (str "ZZZ") 65535 255 (str "FFFFFFFF")) (st 0) (·.result) = some .ok := by decide

/-- The shortest and the longest token, and a value. -/
theorem witness_BuildAssemblesRequest :
    ([str "?", str "ZZZ"].all (fun op => decide ((st 0).cfg.opTokenMin ≤ op.length) && decide (op.length ≤ (st 0).cfg.opTokenMax)
      && op.all isTok)) = true ∧
    (str "FFFFFFFF").length = 8 ∧ ∀ c ∈ str "FFFFFFFF", isHexU c = true := by decide

/-- Each refusal: token of length 0, of length 4, with a foreign character; value of 7 characters, with a lowercase digit. -/
theorem witness_IllegalBuildIsRefused :
    (str "").length < (st 5).cfg.opTokenMin ∧ (st 5).cfg.opTokenMax < (str "ABCD").length ∧
    (∃ c ∈ str "V S", isTok c = false) ∧
    (((st 5).cfg.opTokenMin ≤ (str "VS").length ∧ (str "VS").length ≤ (st 5).cfg.opTokenMax ∧ ∀ c ∈ str "VS", isTok c = true) ∧
      (str "0000001").length ≠ 8 ∧ ∃ c ∈ str "0000000a", isHexU c = false) := by decide

theorem witness_BuiltRequestLength :
    after (.buildBare (str "?")) (st 0) (·.result) = some .ok ∧ after (.buildRead (str "ZZ") 0 0) (st 0) (·.result) = some .ok ∧
    after (.buildWrite (str "ZZZ") 65535 255 (str "FFFFFFFF")) (st 0) (·.result) = some .ok ∧
    (st 0).cfg.opTokenMin = 1 ∧ (st 0).cfg.opTokenMax = 3 := by decide

/-- Both clauses, at the wrap. -/
theorem witness_SeqAdvancesExactlyOnBuild :
    after (.buildBare (str "ZZ")) (st 0xFFFF) (fun t => decide (t.result = .ok) && decide (t.seq ≠ (st 0xFFFF).seq)) =
      some true := by decide

theorem witness_SeqOnlyReadByBuild :
    (∀ op, Instr.parseRsp ≠ .buildBare op) ∧ (∀ op id inst, Instr.parseRsp ≠ .buildRead op id inst) ∧
    (∀ op id inst val, Instr.parseRsp ≠ .buildWrite op id inst val) := by
  refine ⟨?_, ?_, ?_⟩ <;> intros <;> simp

theorem witness_RegistersHaveTheirWriters :
    (nextOf (exec (.rspError (str "!020001") 5 (str "5ED6")) (st 0))).isSome = true := by decide

/-- The empty string and ten characters. -/
theorem witness_ParseShortIsFramingError :
    (received []).rx.length < 11 ∧ (received (str "!0200017BD")).rx.length < 11 := by decide

/-- A marker at index 0, one whose code ends the string, and one next to last (V5's note). -/
theorem witness_ParseMarkerDecides :
    (11 ≤ (str "+09XXXXXXXX").length ∧ (str "+09XXXXXXXX")[0]? = some 0x2B#8 ∧
      (str "+09XXXXXXXX")[1]? = some 0x30#8 ∧ (str "+09XXXXXXXX")[2]? = some (BitVec.ofNat 8 (0x30 + 9))) ∧
    (11 ≤ (str "!0200010+00").length ∧ (str "!0200010+00")[8]? = some 0x2B#8 ∧
      (∀ j, j < 8 → (str "!0200010+00")[j]? ≠ some 0x2B#8) ∧ (str "!0200010+00")[9]? = some 0x30#8 ∧
      (str "!0200010+00")[10]? = some (BitVec.ofNat 8 (0x30 + 0))) ∧
    (11 ≤ (str "!02000100000+0").length ∧ (str "!02000100000+0")[12]? = some 0x2B#8 ∧
      (∀ j, j < 12 → (str "!02000100000+0")[j]? ≠ some 0x2B#8) ∧
      ∀ d : Nat, d < 10 → (str "!02000100000+0")[12 + 2]? ≠ some (BitVec.ofNat 8 (0x30 + d))) := by decide

/-- A preamble that is set and differs; a lowercase digit at index 1, at index 6 and in the last place. -/
theorem witness_ParseChecksFixedFields :
    (11 ≤ (str "#02000041C80000B3D9").length ∧ 0x2B#8 ∉ str "#02000041C80000B3D9" ∧
      (str "#02000041C80000B3D9")[0]? ≠ some 0x21#8) ∧
    ([str "!a2000041C80000FE00", str "!02000a41C80000FE00", str "!02000041C80000FE0a"].all
      (fun l => decide (11 ≤ l.length) && decide (0x2B#8 ∉ l)
        && (decide (l[1]? = some 0x61#8) || decide (l[6]? = some 0x61#8) || decide (l[18]? = some 0x61#8)))) = true ∧
    isHexU 0x61#8 = false ∧ State.reset.cfg.rspPreamble = none := by decide

/-- Eleven characters, the least; the alphabet test of the fixed fields holds of both a good and a bad checksum field. -/
theorem witness_ParseValidatesChecksum :
    ([str "!0200017BDD", str "!0200017BDE"].all
      (fun l => decide (11 ≤ l.length) && decide (0x2B#8 ∉ l) && ((l.drop 1).take 6).all isHexU
        && (l.drop (l.length - 4)).all isHexU)) = true ∧ State.reset.cfg.rspPreamble = none := by decide

theorem witness_AnyEchoIsAccepted :
    (0x21#8 : Byte) ≠ 0x2B#8 ∧ 0x2B#8 ∉ str "41C80000" ∧ (st 0).cfg.rspPreamble = none ∧
    (received (dataFrame 0x21 0x99 0xBEEF (str "41C80000"))).rx = dataFrame 0x21 0x99 0xBEEF (str "41C80000") := by decide

theorem witness_BuiltRequestLoopsBack :
    after (.buildBare (str "ZZ")) (st 2) (·.result) = some .ok ∧ after (.buildRead (str "?VR") 1000 1) (st 0) (·.result) = some .ok ∧
    after (.buildWrite (str "VS") 108 1 (str "00000001")) (st 1) (·.result) = some .ok ∧ (st 0).cfg.rspPreamble = none := by
  decide

/-- Positions 0, 6, 7 and the last of an accepted response. -/
theorem witness_AlteredCharacterIsDetected :
    after .parseRsp (received (str "!02000041C80000FE00")) (·.result) = some .ok ∧
    ([(0, 0x23#8), (6, 0x41#8), (7, 0x61#8), (18, 0x31#8)].all (fun (p : Nat × Byte) =>
      decide ((str "!02000041C80000FE00")[p.1]? ≠ some p.2) && decide (p.2 ≠ 0x2B#8)
        && (isHexU p.2 || decide (p.1 = 0) || decide (p.1 = 7)))) = true ∧ (st 0).cfg.rspPreamble = none := by decide

theorem witness_OutcomesFollowMatrix :
    (nextOf (exec .reservedF (st 0))).isSome = true ∧ (nextOf (takeInput .timeout (st 0))).isSome = true ∧
    (2#32).toNat ≤ 2 ∧ 2 < (3#32).toNat := by decide

/-- A mismatch, which changes `CRC`, and a device error, which changes `ERRCODE`. -/
theorem witness_FailureLeavesTheRest :
    (nextOf (exec (decodeCommand { opsel := 0xD }) (received (str "!02000041C80000FE01")))).map
      (fun t => decide (t.result = .checksumMismatch) && decide (t.crc ≠ 0x1234)) = some true ∧
    (nextOf (exec (decodeCommand { opsel := 0xD }) (received (str "!020001+055ED6")))).map
      (fun t => decide (t.result = .deviceError) && decide (t.errcode ≠ (st 0).errcode)) = some true := by decide

theorem witness_NoOutcomeIsSticky :
    (nextOf (exec (decodeCommand { opsel := 0xA, str := str "ZZ" }) (st 0))).isSome = true := by decide

theorem witness_ValueAndErrcodeReadability :
    (nextOf (exec (decodeCommand { opsel := 0xD }) (received (str "!020001+09XXXX")))).map
      (fun t => (decide (t.result ≠ .ok), t.readErrcode)) = some (true, some 9) := by decide

theorem witness_TimeoutThenShort : ({ st 0 with inputs := [.timeout] } : State).inputs = .timeout :: [] := rfl

/-- A bound met exactly. -/
theorem witness_ReceivedStringIsLoadedWhole :
    ({ State.ofConfig { Config.default with rxMax := some 3 } with inputs := [.word (.line (str "+07"))] } : State).inputs =
      .word (.line (str "+07")) :: [] ∧ (str "+07").length ≤ 3 := by decide

/-- A bound passed by one. -/
theorem witness_OverlongStringIsRefused :
    (State.ofConfig { Config.default with rxMax := some 2 }).cfg.rxMax = some 2 ∧ 2 < (str "+07").length := by decide

theorem witness_FrameRowsLoadTheirCharacters : State.reset.cfg.rxMax = none ∧ 9 < 10 := by decide

theorem witness_NewSessionResets : ({ st 3 with inputs := [.newSession] } : State).inputs = .newSession :: [] := rfl

theorem witness_IdleBlockIsUnchanged : State.reset.inputs = [] := rfl

theorem witness_StepRunsDecodedInstruction :
    (State.reset.withFetchWord 8 0xD).inputs = .word (.command { opsel := 0xD }) :: [] ∧
    decode Config.default (.command { opsel := 0xD }) = .ok .parseRsp ∧
    decode Config.default (.line (str "#020002ZZ4B8F")) = .ok (.reqBare 2 2 (str "ZZ")) := by decide

theorem witness_EveryStepTakesOneInput : State.reset.cfg.rxMax = none := rfl

theorem witness_EveryHostProgramRunsToItsEnd : State.reset.cfg.rxMax = none := rfl

/-- A state that has the invariant with a request in `TX`, and its step. -/
theorem witness_StepKeepsInvariant :
    Safety.Inv { st 3 with tx := str "#020002ZZ4B8F", inputs := [.timeout] } ∧
    (nextOf (step { st 3 with tx := str "#020002ZZ4B8F", inputs := [.timeout] })).isSome = true :=
  ⟨⟨by decide, by decide, by decide, by decide⟩, by decide⟩

theorem witness_DecodeInvertsEncode :
    Config.default.opTokenMax < Config.default.opTokenMin + 6 ∧
    wellFormed Config.default (.reqWrite 255 0xABCD (str "ZZZ") 65535 255 (str "FFFFFFFF")) = true ∧
    wellFormed Config.default (.rspData 0x23 2 0 (str "?VR03E8")) = true ∧ wellFormed Config.default (.rspError (str "!020001") 9 (str "X")) = true := by
  decide

theorem witness_EncodeInvertsDecodeOfLines :
    decode Config.default (.line (str "!0200017BDD")) = .ok (.rspData 0x21 2 1 []) := by decide

theorem witness_UnknownStatusIsDecodeError :
    (0xFFFFFFFF#32).toInt < 0 ∧ 2 < (3#32).toInt := by decide

theorem witness_TimedOutOperationKeepsSequence :
    tokenLegal (st 2).cfg (str "?VR") = true ∧ tokenLegal (st 2).cfg (str "Z") = true := by decide

theorem witness_LogicalReadDeliversValue :
    tokenLegal (st 0).cfg (str "?VR") = true ∧ (st 0).cfg.rxMax = none ∧ (0x21#8 : Byte) ≠ 0x2B#8 ∧
    (st 0).cfg.rspPreamble = none := by decide

theorem witness_CleanConnectLeavesSeqThree :
    (nextOf (connectSequence 2 (.write (str "VS") 108 1 (.int32 1)) (.write (str "VS") 3000 1 (.float32 0x41C80000)) (str "ZZ")
      (some (str "!0200006BFC")) (some (str "!0200017BDD")) (some (str "!020003TEC-1091 v3.008ECA")) (newSession (st 9)))).map (·.result) =
      some .ok := by decide

/-- A host's table: R119's with its gaps filled by numbers of the test's own. -/
def table : Catalogue
  | .disableFlashPersistence =>
    { direction := .write, kind := some .int32, token := some (str "VS"), paramId := some 108, inst := some 1, value := some 1 }
  | .setRampStartPoint =>
    { direction := .write, kind := some .float32, token := some (str "VS"), paramId := some 3000, inst := some 1,
      value := some 0x41C80000 }
  | .identify => { direction := .bare, kind := some .raw, token := some (str "ZZ") }
  | .stabilityState =>
    { direction := .read, kind := some .int32, enumerated := true, token := some readToken, paramId := some 1200,
      inst := some 1 }
  | n => catalogue n

theorem table_completes : table.Completes := by
  intro n; cases n <;> decide

/-- R147, R114: a reconnect resets the block before the handshake, which here fails. -/
theorem test_reconnect_resets_first :
    sessionConnect table 2 false none none none { phase := .disconnected, block := st 9 } =
      some (.next { phase := .disconnected, block := State.reset }) := rfl

/-- Both handshakes, the clean connect, the phases and a call in each. -/
theorem witness_SessionHasTwoPhases :
    ((table .disableFlashPersistence).request none).isSome = true ∧ ((table .setRampStartPoint).request none).isSome = true ∧
    (table .identify).token = some (str "ZZ") ∧ (Session.initial Config.default).phase = .disconnected ∧
    (nextOf (connectSequence 2 (.write (str "VS") 108 1 (.int32 1)) (.write (str "VS") 3000 1 (.float32 0x41C80000)) (str "ZZ")
      none none none (newSession (Session.initial Config.default).block))).isSome = true ∧
    (sessionCall table .objectTemperature none none { phase := .connected, block := st 0 }).isSome = true := by decide

theorem witness_StabilityReadIsEnumerated :
    table.Completes ∧ (table .stabilityState).paramId = some 1200 ∧ (table .stabilityState).inst = some 1 ∧
    ({ phase := .connected, block := st 0 } : Session).phase = .connected ∧
    tokenLegal (st 0).cfg readToken = true ∧ (st 0).cfg.rxMax = none ∧ (0x21#8 : Byte) ≠ 0x2B#8 ∧
    (st 0).cfg.rspPreamble = none :=
  ⟨table_completes, by decide, rfl, by decide, by decide, by decide, by decide, by decide⟩

/-- Once the first request has been built, here with one in flight. -/
theorem witness_DutifulHostKeepsAddress :
    Safety.dutyInput (st 0).cfg 2 { addressed := true, built := true, flight := .awaiting } .timeout =
      some { addressed := true, built := true, flight := .idle } ∧
    HostInput.timeout ≠ .newSession ∧ (nextOf (takeInput .timeout (st 0))).isSome = true := by decide

/-- A build in an addressed session, and one where `ADDR_RESET` is the target's address. -/
theorem witness_DutifulRequestsCarryTarget :
    ((st 0).addr = 2 ∧
      (Safety.dutyInput (st 0).cfg 2 { addressed := true, built := false, flight := .idle }
        (.word (.command { opsel := 0xA, str := str "ZZ" }))).isSome = true) ∧
    (State.reset.cfg.addrReset = 0 ∧ State.reset.addr = 0 ∧
      (Safety.dutyInput State.reset.cfg 0 .fresh (.word (.command { opsel := 0xA, str := str "ZZ" }))).isSome = true) ∧
    (nextOf (takeInput (.word (.command { opsel := 0xA, str := str "ZZ" })) (st 0))).isSome = true := by decide

end Sys2Proof.Tests
end

/-! PROOFS. The state of the block (10_state.md): what every instruction can do to it, said once as the relation `Effect`; who
reads and who writes each register; reset and the step. -/

namespace Sys2Proof.Machine

open Safety

/-! ### The rows of the table by kind -/

/-- A frame row is the load of its characters (R30, R48 to R50). -/
theorem exec_of_encode_line {i : Instr} {l : Str} (hi : encode i = .line l) (s : State) : exec i s = loadRx l s := by
  cases i with
  | reqBare | reqRead | reqWrite | rspData | rspError => cases hi; rfl
  | _ => cases hi

/-- Every code of `OPSEL` is an operation's, and none a frame's (R52). -/
theorem encode_decodeCommand (c : Command) : ∃ w, encode (decodeCommand c) = .command w := by
  unfold decodeCommand
  split <;> exact ⟨_, rfl⟩

/-- The `BUILD_*` are the rows whose operands R96 checks. -/
theorem buildLegal_isSome {c : Config} {i : Instr} :
    (buildLegal c i).isSome = true ↔ (∃ op, i = .buildBare op) ∨ (∃ op id inst, i = .buildRead op id inst) ∨
      (∃ op id inst val, i = .buildWrite op id inst val) := by
  cases i <;> simp [buildLegal]

/-- A row that builds is one whose operands pass R96. -/
theorem builds_iff_buildLegal {c : Config} {i : Instr} : builds c i = true ↔ buildLegal c i = some true := by
  simp [builds]

theorem encode_of_builds {c : Config} {i : Instr} (h : builds c i = true) : ∃ w, encode i = .command w := by
  cases i with
  | buildBare | buildRead | buildWrite => exact ⟨_, rfl⟩
  | _ => cases h

/-- What a `BUILD_*` does is settled by the parameters, whatever the registers hold: it builds a request when its operands
pass R96 (R98), and is refused otherwise. -/
theorem exec_of_buildLegal {i : Instr} {c : Config} {legal : Bool} (h : buildLegal c i = some legal) :
    ∃ op tail r, ∀ s : State, s.cfg = c →
      exec i s = .next (if legal then buildRequest op tail s else s.raise (.refused r)) := by
  cases i with
  | buildBare op =>
    cases h
    refine ⟨op, bareTail, .badToken, ?_⟩
    rintro s rfl
    rcases execBuildBare_cases op s with ⟨ht, e⟩ | ⟨ht, e⟩ <;> simp [exec, e, ht]
  | buildRead op id inst =>
    cases h
    refine ⟨op, readTail id inst, .badToken, ?_⟩
    rintro s rfl
    rcases execBuildRead_cases op id inst s with ⟨ht, e⟩ | ⟨ht, e⟩ <;> simp [exec, e, ht]
  | buildWrite op id inst val =>
    cases h
    refine ⟨op, writeTail id inst val, if tokenLegal c op then .badValue else .badToken, ?_⟩
    rintro s rfl
    rcases execBuildWrite_cases op id inst val s with ⟨ht, hv, e⟩ | ⟨ht, hv, e⟩ | ⟨ht, e⟩ <;> simp [exec, *]
  | _ => cases h

/-! ### Everything an instruction can do -/

/-- What an instruction can leave behind in the state `s`: one constructor for each way in which the rows end. -/
inductive Effect (s : State) : Instr → State → Prop
  /-- A frame row: the load of `RX` (R30). -/
  | load {i : Instr} {l : Str} (hi : encode i = .line l) (hfit : rxFits s.cfg l.length = true) : Effect s i (s.setRx l)
  /-- A `BUILD_*` with legal operands (R98). -/
  | build {i : Instr} (op tail : Str) (hi : builds s.cfg i = true) : Effect s i (buildRequest op tail s)
  /-- `SET_ADDR` (R95). -/
  | setAddr (a : BitVec 8) : Effect s (.setAddr a) ((s.setAddr a).succeed .none)
  /-- The rows of the Checksum Engine that write `CRC` (R64 to R66). -/
  | setCrc {i : Instr} (c : CrcWord) (v : Value) (hi : i = .crcClr ∨ (∃ b, i = .crcUpd b) ∨ ∃ x, i = .checksum x) :
      Effect s i ((s.setCrc c).succeed v)
  /-- An operation that ends `OK` and writes no other register than `VALUE` (R67, R73, R85). -/
  | answer {i : Instr} {w : Command} (v : Value) (hi : encode i = .command w) : Effect s i (s.succeed v)
  /-- A decoder on a bad operand (R79, R89). -/
  | badDigits {i : Instr} {w : Command} (f : DigitsFault) (hi : encode i = .command w) :
      Effect s i (s.raise (decodeFailure f))
  /-- An operation that is refused (R54, R96). -/
  | refuse {i : Instr} {w : Command} (r : RefusedReason) (hi : encode i = .command w) : Effect s i (s.raise (.refused r))
  /-- `PARSE_RSP` on a string that is no response (R103, R105, R106). -/
  | framing (c : FramingCause) : Effect s .parseRsp (s.raise (.framingError c))
  /-- `PARSE_RSP` on an error frame (R105). -/
  | device (d : BitVec 4) (hd : d < 10#4) : Effect s .parseRsp ((s.setErrcode d).raise .deviceError)
  /-- `PARSE_RSP` on a response whose checksum field does not match (R107). -/
  | mismatch : Effect s .parseRsp ((s.setCrc (checksum (beforeChecksum s.rx))).raise .checksumMismatch)
  /-- `PARSE_RSP` on a response it accepts (R108). -/
  | payload : Effect s .parseRsp
      ((s.setCrc (checksum (beforeChecksum s.rx))).succeed (.str ((beforeChecksum s.rx).drop Config.hdrLen)))

theorem effect_of_encode_line {i : Instr} {l : Str} {s t : State} (hi : encode i = .line l) (h : exec i s = .next t) :
    Effect s i t := by
  obtain ⟨hfit, rfl⟩ := loadRx_eq_next.1 ((exec_of_encode_line hi s).symm.trans h)
  exact .load hi hfit

theorem effect_of_buildLegal {i : Instr} {w : Command} {legal : Bool} {s t : State}
    (hb : buildLegal s.cfg i = some legal) (hi : encode i = .command w) (h : exec i s = .next t) : Effect s i t := by
  obtain ⟨op, tail, r, e⟩ := exec_of_buildLegal hb
  cases (e s rfl).symm.trans h
  cases legal
  · exact .refuse r hi
  · exact .build op tail (builds_iff_buildLegal.2 hb)

theorem effect_finishDecode {i : Instr} {w : Command} (hi : encode i = .command w) (r : Except DigitsFault (BitVec 32))
    (s : State) : Effect s i (finishDecode r s) := by
  rcases finishDecode_cases r s with ⟨v, -, e⟩ | ⟨f, -, e⟩ <;> rw [e]
  · exact .answer _ hi
  · exact .badDigits f hi

theorem effect_finishParse (s : State) : Effect s .parseRsp (finishParse (parseResponse s.cfg.rspPreamble s.rx) s) := by
  rcases parseResponse_cases s.cfg.rspPreamble s.rx with ⟨c, e⟩ | ⟨d, hd, e⟩ | e | e <;> rw [e]
  · exact .framing c
  · exact .device d hd
  · exact .mismatch
  · exact .payload

/-- Every row ends in one of the ways of `Effect`. -/
theorem effect_of_exec {i : Instr} {s t : State} (h : exec i s = .next t) : Effect s i t := by
  cases i with
  | crcClr => cases h; exact .setCrc _ _ (.inl rfl)
  | crcUpd b => cases h; exact .setCrc _ _ (.inr (.inl ⟨b, rfl⟩))
  | checksum x => cases h; exact .setCrc _ _ (.inr (.inr ⟨x, rfl⟩))
  | crcRd | encU8 | encU16 | encI32 | encF32 => cases h; exact .answer _ rfl
  | decI32 | decF32 => cases h; exact effect_finishDecode rfl _ s
  | buildBare | buildRead | buildWrite => exact effect_of_buildLegal rfl rfl h
  | parseRsp => cases h; exact effect_finishParse s
  | setAddr a => cases h; exact .setAddr a
  | reservedF => cases h; exact .refuse _ rfl
  | reqBare | reqRead | reqWrite | rspData | rspError => exact effect_of_encode_line rfl h

/-! ### Who writes each register -/

/-- Settles O25: each way of ending writes the registers it names and no others. -/
theorem registersHaveTheirWriters : Obligations.RegistersHaveTheirWriters := by
  intro i s t h
  cases effect_of_exec h with
  | load hi _ => simp [hi]
  | build op tail hi => simp [buildRequest_eq, hi, encode_of_builds hi]
  | setCrc c v hi => rcases hi with rfl | ⟨b, rfl⟩ | ⟨x, rfl⟩ <;> simp [encode]
  | answer _ hi | badDigits _ hi | refuse _ hi => simp [hi]
  | setAddr | framing | device | mismatch | payload => simp [encode]

/-- A `BUILD_*` that ends `OK` has built. -/
theorem eq_buildRequest_of_ok {i : Instr} {s t : State} (hi : (buildLegal s.cfg i).isSome = true) (h : exec i s = .next t)
    (hok : t.result = .ok) : ∃ op tail, t = buildRequest op tail s := by
  obtain ⟨legal, hb⟩ := Option.isSome_iff_exists.1 hi
  obtain ⟨op, tail, r, e⟩ := exec_of_buildLegal hb
  cases (e s rfl).symm.trans h
  cases legal
  · cases hok
  · exact ⟨op, tail, rfl⟩

/-- Only a legal `BUILD_*` changes `SEQ`, and it ends `OK`. -/
theorem ok_and_builds_of_seq_ne {i : Instr} {s t : State} (h : exec i s = .next t) (hne : t.seq ≠ s.seq) :
    t.result = .ok ∧ builds s.cfg i = true := by
  cases effect_of_exec h with
  | build op tail hi => exact ⟨rfl, hi⟩
  | _ => exact absurd rfl hne

/-- Settles O23: a build that ends `OK` has passed R96, and no other way of ending writes `SEQ`. -/
theorem seqAdvancesExactlyOnBuild : Obligations.SeqAdvancesExactlyOnBuild := by
  intro i s t h
  refine ⟨fun hok hi => ?_, fun hne => ?_⟩
  · obtain ⟨op, tail, rfl⟩ := eq_buildRequest_of_ok (buildLegal_isSome.2 hi) h hok
    simp [buildRequest_eq, BitVec.toNat_add]
  · obtain ⟨hok, hb⟩ := ok_and_builds_of_seq_ne h hne
    exact ⟨hok, (buildLegal_isSome (c := s.cfg)).1 (by simp [builds_iff_buildLegal.1 hb])⟩

/-! ### Reading `VALUE` and `ERRCODE` -/

theorem State.readValue_of_result_ne_ok {s : State} (h : s.result ≠ .ok) : s.readValue = none := by
  unfold State.readValue
  split <;> simp_all

theorem State.readErrcode_eq_some {s : State} {e : BitVec 4} :
    s.readErrcode = some e ↔ s.result = .deviceError ∧ s.errcode = e := by
  unfold State.readErrcode
  split <;> simp_all

/-- An operation that ends `DeviceError` has stored a decimal digit (R15, R105). -/
theorem errcode_lt_of_deviceError {i : Instr} {w : Command} {s t : State} (hi : encode i = .command w)
    (h : exec i s = .next t) (ht : t.result = .deviceError) : t.errcode < 10#4 := by
  cases effect_of_exec h with
  | device d hd => exact hd
  | load hl _ => cases hi.symm.trans hl
  | badDigits f _ => cases f <;> cases ht
  | _ => cases ht

/-- Settles O37: the two registers are read under their outcome in every state, and `DeviceError` brings its own code. -/
theorem valueAndErrcodeReadability : Obligations.ValueAndErrcodeReadability := by
  intro c s t h
  obtain ⟨w, hw⟩ := encode_decodeCommand c
  refine ⟨State.readValue_of_result_ne_ok, fun e => State.readErrcode_eq_some, fun e he => ?_⟩
  obtain ⟨ht, rfl⟩ := State.readErrcode_eq_some.1 he
  exact errcode_lt_of_deviceError hw h ht

/-! ### Who reads `SEQ` and `CRC` -/

theorem finishDecode_setSeq (r : Except DigitsFault (BitVec 32)) (s : State) (q : SeqWord) :
    finishDecode r (s.setSeq q) = (finishDecode r s).setSeq q := by
  cases r <;> rfl

theorem finishParse_setSeq (r : Parsed) (s : State) (q : SeqWord) :
    finishParse r (s.setSeq q) = (finishParse r s).setSeq q := by
  cases r <;> rfl

theorem loadRx_setSeq (l : Str) (s : State) (q : SeqWord) :
    loadRx l (s.setSeq q) = andThen (loadRx l s) (fun t => .next (t.setSeq q)) := by
  rcases loadRx_cases l s with ⟨h, e⟩ | ⟨h, e⟩ <;> rw [e]
  · exact loadRx_of_fits h
  · simp [loadRx, h]

/-- Another `SEQ` goes through every row that is no `BUILD_*`. -/
theorem exec_setSeq {i : Instr} {s : State} (hi : buildLegal s.cfg i = none) (q : SeqWord) :
    exec i (s.setSeq q) = andThen (exec i s) (fun t => .next (t.setSeq q)) := by
  cases i with
  | buildBare | buildRead | buildWrite => cases hi
  | decI32 | decF32 => exact congrArg _ (finishDecode_setSeq _ s q)
  | parseRsp => exact congrArg _ (finishParse_setSeq _ s q)
  | reqBare | reqRead | reqWrite | rspData | rspError => exact loadRx_setSeq _ s q
  | _ => rfl

/-- Settles O24, row by row through `exec_setSeq`. -/
theorem seqOnlyReadByBuild : Obligations.SeqOnlyReadByBuild := by
  intro i q s hbare hread hwrite
  refine exec_setSeq (Option.not_isSome_iff_eq_none.1 fun hi => ?_) q
  rcases buildLegal_isSome.1 hi with ⟨op, e⟩ | ⟨op, id, inst, e⟩ | ⟨op, id, inst, val, e⟩
  · exact hbare op e
  · exact hread op id inst e
  · exact hwrite op id inst val e

/-- The two ways in which a row can treat the old `CRC` without reading it: `u`, which it leaves from the state with `CRC`
set to `c`, is the `t` it leaves from `s`, or both have `CRC` as it stood. -/
def OldCrcUnread (c : CrcWord) (s t u : State) : Prop :=
  u = t ∨ (u = t.setCrc c ∧ t.crc = s.crc)

theorem finishDecode_setCrc (r : Except DigitsFault (BitVec 32)) (s : State) (c : CrcWord) :
    OldCrcUnread c s (finishDecode r s) (finishDecode r (s.setCrc c)) := by
  cases r <;> exact .inr ⟨rfl, rfl⟩

theorem finishParse_setCrc (r : Parsed) (s : State) (c : CrcWord) :
    OldCrcUnread c s (finishParse r s) (finishParse r (s.setCrc c)) := by
  cases r with
  | framing | device => exact .inr ⟨rfl, rfl⟩
  | mismatch | payload => exact .inl rfl

theorem exec_setCrc_of_buildLegal {i : Instr} {legal : Bool} {s t : State} (hb : buildLegal s.cfg i = some legal)
    (h : exec i s = .next t) (c : CrcWord) : ∃ u, exec i (s.setCrc c) = .next u ∧ OldCrcUnread c s t u := by
  obtain ⟨op, tail, r, e⟩ := exec_of_buildLegal hb
  cases (e s rfl).symm.trans h
  refine ⟨_, e (s.setCrc c) rfl, ?_⟩
  cases legal
  · exact .inr ⟨rfl, rfl⟩
  · exact .inl rfl

theorem exec_setCrc_of_encode_line {i : Instr} {l : Str} {s t : State} (hi : encode i = .line l)
    (h : exec i s = .next t) (c : CrcWord) : ∃ u, exec i (s.setCrc c) = .next u ∧ OldCrcUnread c s t u := by
  rw [exec_of_encode_line hi] at h ⊢
  obtain ⟨hfit, rfl⟩ := loadRx_eq_next.1 h
  exact ⟨_, loadRx_of_fits hfit, .inr ⟨rfl, rfl⟩⟩

/-- No row but `CRC_UPD` and `CRC_RD` reads the old `CRC`. -/
theorem exec_setCrc {i : Instr} {s t : State} (hupd : ∀ b, i ≠ .crcUpd b) (hrd : i ≠ .crcRd) (h : exec i s = .next t)
    (c : CrcWord) : ∃ u, exec i (s.setCrc c) = .next u ∧ OldCrcUnread c s t u := by
  cases i with
  | crcUpd b => exact absurd rfl (hupd b)
  | crcRd => exact absurd rfl hrd
  | crcClr | checksum => cases h; exact ⟨_, rfl, .inl rfl⟩
  | buildBare | buildRead | buildWrite => exact exec_setCrc_of_buildLegal rfl h c
  | decI32 | decF32 => cases h; exact ⟨_, rfl, finishDecode_setCrc _ s c⟩
  | parseRsp => cases h; exact ⟨_, rfl, finishParse_setCrc _ s c⟩
  | reqBare | reqRead | reqWrite | rspData | rspError => exact exec_setCrc_of_encode_line rfl h c
  | encU8 | encU16 | encI32 | encF32 | setAddr | reservedF => cases h; exact ⟨_, rfl, .inr ⟨rfl, rfl⟩⟩

/-- Settles O10: every other row overwrites `CRC` or leaves it. -/
theorem oldCrcOnlyReadByUpdAndRd : Obligations.OldCrcOnlyReadByUpdAndRd := by
  intro i c s t hupd hrd h
  obtain ⟨u, e, hu⟩ := exec_setCrc hupd hrd h c
  refine ⟨u, e, ?_⟩
  rcases hu with rfl | ⟨rfl, hcrc⟩
  · exact ⟨rfl, .inl rfl⟩
  · exact ⟨rfl, .inr ⟨rfl, hcrc⟩⟩

/-! ### Reset and the step -/

/-- The literal table is the one R27's recurrence generates: all its 256 entries, computed. -/
theorem crcTable_eq_crcTableEntry : ∀ i : BitVec 8, crcTable i = crcTableEntry i := by
  decide

/-- Settles O1; the table is compared with the recurrence, the rest is the block as it is made. -/
theorem resetHasStatedValues : Obligations.ResetHasStatedValues :=
  fun _ => ⟨rfl, rfl, rfl, rfl, rfl, rfl, rfl, rfl, crcTable_eq_crcTableEntry⟩

/-- Settles O46: the empty `TX` and `RX` meet their clauses under every setting. -/
theorem resetMeetsInvariant : Obligations.ResetMeetsInvariant :=
  fun c => ⟨rfl, rxFits_zero c, (by decide : 0#4 < 10#4), nofun⟩

/-- A step with an input pending. -/
theorem step_of_inputs_cons {s : State} {e : HostInput} {rest : List HostInput} (h : s.inputs = e :: rest) :
    step s = takeInput e (s.setInputs rest) := by
  simp [step, h]

/-- A port word runs as the instruction it decodes to, a command and a frame alike. -/
theorem runWord_of_decode {w : PortWord} {i : Instr} {s : State} (h : decode s.cfg w = .ok i) : runWord w s = exec i s := by
  cases w with
  | command c => cases h; rfl
  | line l =>
    have hl : decodeLine s.cfg l = .ok i := h
    simp [runWord, hl]

/-- Settles O44, for both kinds of port word. -/
theorem stepRunsDecodedInstruction : Obligations.StepRunsDecodedInstruction :=
  fun _ _ _ _ hin hdec => (step_of_inputs_cons hin).trans (runWord_of_decode hdec)

end Sys2Proof.Machine

/-! PROOFS. The memory of the block (20_memory.md): the checksum table as a linear map; a string on the receive line and the
frame it is decoded to; the request that a `BUILD_*` leaves in `TX`, and the invariant every step keeps. -/

namespace Sys2Proof.Machine

open Safety

/-! ### The checksum table -/

/-- One bit of the recurrence is linear: the top bit of an xor is the xor of the top bits. -/
theorem crcBit_xor (a b : CrcWord) : crcBit (a ^^^ b) = crcBit a ^^^ crcBit b := by
  unfold crcBit
  rw [BitVec.msb_xor, BitVec.shiftLeft_xor_distrib]
  cases a.msb <;> cases b.msb
  · simp
  · simp [BitVec.xor_assoc]
  · simp [BitVec.xor_assoc, BitVec.xor_comm crcPoly]
  · have hcancel : (a <<< 1 ^^^ crcPoly) ^^^ (b <<< 1 ^^^ crcPoly) =
        (a <<< 1 ^^^ b <<< 1) ^^^ (crcPoly ^^^ crcPoly) := by ac_rfl
    simp [hcancel]

theorem crcBits_xor (k : Nat) (a b : CrcWord) : crcBits k (a ^^^ b) = crcBits k a ^^^ crcBits k b := by
  induction k generalizing a b with
  | zero => rfl
  | succ k ih => simp only [crcBits, crcBit_xor, ih]

theorem crcTable_xor (a b : Byte) : crcTable (a ^^^ b) = crcTable a ^^^ crcTable b := by
  simp only [crcTable_eq_crcTableEntry, crcTableEntry, BitVec.setWidth_xor, BitVec.shiftLeft_xor_distrib, crcBits_xor]

/-- The kernel of the table: all 256 entries, computed. -/
theorem eq_zero_of_crcTable_eq_zero : ∀ a : Byte, crcTable a = 0#16 → a = 0#8 := by
  decide

/-- Settles O2: linearity comes from R27's recurrence, distinctness from linearity and the kernel. -/
theorem crcTableLinearDistinct : Obligations.CrcTableLinearDistinct := by
  refine ⟨crcTable_xor, fun a b h => ?_⟩
  have hker : a ^^^ b = 0#8 := eq_zero_of_crcTable_eq_zero _ (by rw [crcTable_xor, h, BitVec.xor_self])
  exact BitVec.xor_eq_zero_iff.1 hker

/-! ### Frames and their fields -/

/-- Reading digits and writing them again: `k` digits worth `acc` stand before the string. -/
theorem hexDigits_of_unhexFrom {s : Str} {acc v : Nat} (k : Nat) (h : unhexFrom acc s = some v) :
    hexDigits (k + s.length) v = hexDigits k acc ++ s := by
  induction s generalizing acc k with
  | nil => cases h; simp
  | cons c s ih =>
    cases hc : hexVal c with
    | none => simp [unhexFrom, hc] at h
    | some d =>
      have ih := ih (k + 1) (by simpa [unhexFrom, hc] using h)
      have hdiv : (16 * acc + d.toNat) / 16 = acc := by omega
      have hd : BitVec.ofNat 4 (16 * acc + d.toNat) = d := by
        apply BitVec.eq_of_toNat_eq; simp; omega
      rw [List.length_cons, Nat.add_comm s.length, ← Nat.add_assoc, ih]
      simp [hexDigits, hdiv, hd, hexChar_of_hexVal hc]

/-- A field that has a value is the digits of that value (R44, R45). -/
theorem hexDigits_of_unhexField {k : Nat} {s : Str} {v : BitVec (4 * k)} (h : unhexField k s = some v) :
    hexDigits k v.toNat = s := by
  unfold unhexField at h
  split at h
  · next hlen =>
    obtain ⟨n, hn, rfl⟩ := Option.map_eq_some_iff.1 h
    have hlt : n < 2 ^ (4 * k) := by
      simpa [hlen, Nat.pow_mul] using unhexFrom_lt (k := 0) (by simp) hn
    simpa [hlen, Nat.mod_eq_of_lt hlt, hexDigits] using hexDigits_of_unhexFrom 0 hn
  · cases h

theorem hex2_of_unhexField {s : Str} {v : BitVec 8} (h : unhexField 2 s = some v) : hex2 v = s :=
  hexDigits_of_unhexField h

theorem hex4_of_unhexField {s : Str} {v : BitVec 16} (h : unhexField 4 s = some v) : hex4 v = s :=
  hexDigits_of_unhexField h

/-- A request has the format of a data response (R112). -/
theorem request_eq_dataFrame (a : BitVec 8) (q : BitVec 16) (op tail : Str) :
    request a q op tail = dataFrame Config.reqPreamble a q (op ++ tail) := by
  simp [request, requestBody, dataFrame]

@[simp] theorem beforeChecksum_withChecksum (b : Str) : beforeChecksum (withChecksum b) = b := by
  simp [beforeChecksum, Config.cksLen, withChecksum]

@[simp] theorem checksumField_withChecksum (b : Str) : checksumField (withChecksum b) = hex4 (checksum b) := by
  simp [checksumField, Config.cksLen, withChecksum]

@[simp] theorem headerDigits_dataFrame (x : Byte) (a : BitVec 8) (q : BitVec 16) (p : Str) :
    headerDigits (dataFrame x a q p) = hex2 a ++ hex4 q := by
  simp [headerDigits, Config.hdrLen, dataFrame, withChecksum, List.take_append]

/-- The payload stands between header and checksum field (R108). -/
@[simp] theorem payload_dataFrame (x : Byte) (a : BitVec 8) (q : BitVec 16) (p : Str) :
    (beforeChecksum (dataFrame x a q p)).drop Config.hdrLen = p := by
  simp [dataFrame, Config.hdrLen, List.drop_append]

/-- A string whose fields at the fixed distances of R37 are written out is the frame with these fields. -/
theorem eq_dataFrame_of_fields {x : Byte} {a : BitVec 8} {q : BitVec 16} {s : Str} (hlen : 11 ≤ s.length)
    (hx : s.head? = some x) (hhdr : hex2 a ++ hex4 q = headerDigits s)
    (hsum : hex4 (checksum (beforeChecksum s)) = checksumField s) :
    s = dataFrame x a q ((beforeChecksum s).drop Config.hdrLen) := by
  have hhead : x :: headerDigits s = (beforeChecksum s).take Config.hdrLen := by
    obtain ⟨r, rfl⟩ := List.head?_eq_some_iff.1 hx
    have hmin : min Config.hdrLen ((x :: r).length - Config.cksLen) = 6 + 1 :=
      Nat.min_eq_left (by simp only [Config.hdrLen, Config.cksLen]; omega)
    rw [beforeChecksum, List.take_take, hmin]
    rfl
  have hbody : x :: (hex2 a ++ hex4 q ++ (beforeChecksum s).drop Config.hdrLen) = beforeChecksum s := by
    rw [hhdr, ← List.cons_append, hhead, List.take_append_drop]
  rw [dataFrame, hbody, withChecksum, hsum]
  exact (List.take_append_drop ..).symm

/-! ### The decoder of the receive line -/

/-- The request a payload is read as has that payload (R48). -/
theorem encode_of_decodeRequestPayload {c : Config} {a : BitVec 8} {q : BitVec 16} {p : Str} {i : Instr}
    (h : decodeRequestPayload c a q p = some i) : encode i = .line (dataFrame Config.reqPreamble a q p) := by
  unfold decodeRequestPayload at h
  split at h
  · cases h; simp [encode, request_eq_dataFrame, bareTail]
  · simp only at h
    split at h
    · next id inst _ hid hinst =>
      cases h
      have htail : readTail id inst = p.drop (p.length - 6) := by
        rw [readTail, hex4_of_unhexField hid, hex2_of_unhexField hinst, List.take_append_drop]
      simp [encode, request_eq_dataFrame, htail]
    · split at h
      · next id inst _ hid hinst =>
        cases h
        have htail : writeTail id inst ((p.drop (p.length - 14)).drop 6) = p.drop (p.length - 14) := by
          rw [writeTail, hex4_of_unhexField hid, hex2_of_unhexField hinst, ← List.take_add, List.take_append_drop]
        simp only [encode, request_eq_dataFrame, htail, List.take_append_drop]
      · cases h

/-- A string that is cut into frame fields is the frame with these fields (R49). -/
theorem encode_of_decodeData {c : Config} {s : Str} {i : Instr} (hlen : 11 ≤ s.length)
    (h : decodeData c s = .ok i) : encode i = .line s := by
  unfold decodeData at h
  simp only at h
  split at h
  · next x rest a q k ha hq hk =>
    split at h
    · cases h
    · next hsum =>
      have hhdr : hex2 a ++ hex4 q = headerDigits (x :: rest) := by
        rw [hex2_of_unhexField ha, hex4_of_unhexField hq]
        exact List.take_add.symm
      have hfields := eq_dataFrame_of_fields hlen rfl hhdr (not_not.1 hsum ▸ hex4_of_unhexField hk)
      split at h
      · next hi =>
        cases h
        split at hi
        · next hx =>
          subst hx
          exact (encode_of_decodeRequestPayload hi).trans (congrArg _ hfields.symm)
        · cases hi
      · cases h
        exact congrArg _ hfields.symm
  · cases h

/-- A decimal digit is the digit character of its number. -/
theorem hexChar_of_isDecimal : ∀ {d : Byte}, isDecimal d = true → hexChar ((d - ch0).setWidth 4) = d := by
  decide

/-- What a string is decoded to has that string as its encoding. -/
theorem encode_of_decodeLine {c : Config} {l : Str} {i : Instr} (h : decodeLine c l = .ok i) : encode i = .line l := by
  unfold decodeLine at h
  split at h
  · cases h
  · next hlen =>
    split at h
    · exact encode_of_decodeData (Nat.le_of_not_lt hlen) h
    · next m z d after hdrop =>
      split at h
      · next hzd =>
        cases h
        simp only [Bool.and_eq_true, beq_iff_eq] at hzd
        obtain ⟨rfl, hd⟩ := hzd
        have hm : m = chPlus := by
          have := List.head?_dropWhile_not (· != chPlus) l
          simpa [hdrop] using this
        subst hm
        rw [encode, errorFrame, hexChar_of_isDecimal hd, ← hdrop, List.takeWhile_append_dropWhile]
      · cases h
    · cases h

/-- A string on the receive line is loaded into `RX`, whether it is a frame or not (R30). -/
theorem runWord_line (l : Str) (s : State) : runWord (.line l) s = loadRx l s := by
  cases h : decodeLine s.cfg l with
  | ok i => simp [runWord, h, exec_of_encode_line (encode_of_decodeLine h)]
  | error e => simp [runWord, h]

/-- Settles O39: the load of a frame row and of a string that is no frame is one and the same, `runWord_line`. -/
theorem receivedStringIsLoadedWhole : Obligations.ReceivedStringIsLoadedWhole := by
  intro s l rest hin hmax
  have hfit : rxFits s.cfg l.length = true := by
    cases hm : s.cfg.rxMax with
    | none => simp [hm]
    | some m => simpa [hm] using hmax m hm
  rw [step_of_inputs_cons hin]
  exact (runWord_line l _).trans (loadRx_of_fits hfit)

/-! ### The request in `TX` -/

/-- One of the three tails of R48, by its length. -/
def IsTail (tail : Str) : Prop :=
  tail.all isHexU = true ∧ (tail.length = 0 ∨ tail.length = 6 ∨ tail.length = 14)

theorem isTail_bareTail : IsTail bareTail := ⟨rfl, .inl rfl⟩

theorem isTail_readTail (id : BitVec 16) (inst : BitVec 8) : IsTail (readTail id inst) :=
  ⟨by simp only [readTail, List.all_append, hex4_all_isHexU, hex2_all_isHexU, Bool.and_self], .inr (.inl (by simp))⟩

theorem isTail_writeTail (id : BitVec 16) (inst : BitVec 8) {val : Str} (h : valueOk val = true) :
    IsTail (writeTail id inst val) := by
  simp only [valueOk, Bool.and_eq_true, decide_eq_true_eq] at h
  obtain ⟨hlen, hval⟩ := h
  refine ⟨?_, .inr (.inr (by simp [hlen]))⟩
  simp only [writeTail, List.all_append, hex4_all_isHexU, hex2_all_isHexU, hval, Bool.and_self]

/-- A row that builds leaves a request with a legal token and one of the three tails (R98). -/
theorem exec_of_builds {i : Instr} {s : State} (h : builds s.cfg i = true) :
    ∃ op tail, tokenLegal s.cfg op = true ∧ IsTail tail ∧ exec i s = .next (buildRequest op tail s) := by
  rcases builds_eq_true.1 h with ⟨op, rfl, ht⟩ | ⟨op, id, inst, rfl, ht⟩ | ⟨op, id, inst, val, rfl, ht, hv⟩
  · exact ⟨op, _, ht, isTail_bareTail, by simp [exec, execBuildBare, ht]⟩
  · exact ⟨op, _, ht, isTail_readTail id inst, by simp [exec, execBuildRead, ht]⟩
  · exact ⟨op, _, ht, isTail_writeTail id inst hv, by simp [exec, execBuildWrite, ht, hv]⟩

/-- A token with one of the three tails is what lies between header and checksum field of a request. -/
theorem isRequestPayload_append {c : Config} {op tail : Str} (hop : tokenLegal c op = true) (ht : IsTail tail) :
    isRequestPayload c (op ++ tail) = true := by
  have hop : frameTokenOk c op = true := hop
  obtain ⟨hhex, hlen | hlen | hlen⟩ := ht
  · simp [isRequestPayload, List.length_eq_zero_iff.1 hlen, hop]
  · simp [isRequestPayload, hlen, hop, hhex]
  · simp [isRequestPayload, hlen, hop, hhex]

/-- No byte of a request is the error marker, and all are ASCII. -/
theorem request_ascii (a : BitVec 8) (q : BitVec 16) {op tail : Str} (hop : op.all isTok = true)
    (ht : tail.all isHexU = true) {b : Byte} (hb : b ∈ request a q op tail) : b < 0x80#8 ∧ b ≠ chPlus := by
  have hex : ∀ {s : Str}, s.all isHexU = true → b ∈ s → b < 0x80#8 ∧ b ≠ chPlus :=
    fun hs h => isHexU_ascii (List.all_eq_true.1 hs b h)
  simp only [request, withChecksum, requestBody, List.mem_append, List.mem_cons] at hb
  rcases hb with (rfl | (((hb | hb) | hb) | hb)) | hb
  · decide
  · exact hex (hex2_all_isHexU a) hb
  · exact hex (hex4_all_isHexU q) hb
  · exact isTok_ascii (List.all_eq_true.1 hop b hb)
  · exact hex ht hb
  · exact hex (hex4_all_isHexU _) hb

/-- A request with a legal token and one of the three tails meets every clause on `TX` (R29, R48). -/
theorem txOk_request {c : Config} (a : BitVec 8) (q : BitVec 16) {op tail : Str} (hop : tokenLegal c op = true)
    (ht : IsTail tail) : txOk c (request a q op tail) = true := by
  have hpayload := isRequestPayload_append hop ht
  simp only [tokenLegal, tokenOk, Bool.and_eq_true, decide_eq_true_eq] at hop
  obtain ⟨⟨hmin, hmax⟩, htok⟩ := hop
  obtain ⟨hhex, hlen⟩ := ht
  have hhead : (request a q op tail).head? = some Config.reqPreamble := rfl
  have hhdr : (headerDigits (request a q op tail)).all isHexU = true := by
    simp only [request_eq_dataFrame, headerDigits_dataFrame, List.all_append, hex2_all_isHexU, hex4_all_isHexU,
      Bool.and_self]
  have hmid : isRequestPayload c ((beforeChecksum (request a q op tail)).drop Config.hdrLen) = true := by
    simpa [request_eq_dataFrame] using hpayload
  have hascii : (request a q op tail).all (fun b => decide (b < 0x80#8) && b != chPlus) = true := by
    simpa using fun b hb => request_ascii a q htok hhex hb
  have hlo : 11 + c.opTokenMin ≤ (request a q op tail).length := by rw [request_length]; omega
  have hhi : (request a q op tail).length ≤ 25 + c.opTokenMax := by rw [request_length]; omega
  have hsum : checksumField (request a q op tail) = hex4 (checksum (beforeChecksum (request a q op tail))) := by
    simp [request]
  simp only [txOk, hhead, hhdr, hmid, hascii, hlo, hhi, hsum, decide_true, beq_self_eq_true, Bool.and_self,
    Bool.or_true]

/-! ### The invariant -/

/-- Every way in which an instruction ends keeps the invariant. -/
theorem inv_of_exec {i : Instr} {s t : State} (hs : Inv s) (h : exec i s = .next t) : Inv t := by
  obtain ⟨htx, hrx, herr, hres⟩ := hs
  cases effect_of_exec h with
  | build _ _ hi =>
    obtain ⟨op, tail, hop, ht, e⟩ := exec_of_builds hi
    rw [Host.Outcome.next.inj (h.symm.trans e)]
    exact ⟨txOk_request _ _ hop ht, hrx, herr, nofun⟩
  | load hi hfit => exact ⟨htx, hfit, herr, hres⟩
  | badDigits f hi => exact ⟨htx, hrx, herr, by cases f <;> exact nofun⟩
  | device d hd => exact ⟨htx, hrx, hd, nofun⟩
  | _ => exact ⟨htx, hrx, herr, nofun⟩

/-- Every input of the host keeps the invariant. -/
theorem inv_of_takeInput {e : HostInput} {s t : State} (hs : Inv s) (h : takeInput e s = .next t) : Inv t := by
  cases e with
  | word w =>
    cases w with
    | command c => exact inv_of_exec hs h
    | line l =>
      obtain ⟨hfit, rfl⟩ := loadRx_eq_next.1 ((runWord_line l s).symm.trans h)
      obtain ⟨htx, -, herr, hres⟩ := hs
      exact ⟨htx, hfit, herr, hres⟩
  | timeout =>
    cases h
    obtain ⟨htx, -, herr, -⟩ := hs
    exact ⟨htx, rxFits_zero _, herr, nofun⟩
  | newSession =>
    cases h
    exact resetMeetsInvariant s.cfg

/-- Settles O47: the invariant does not look at the list of inputs, and whatever is taken from it keeps the invariant. -/
theorem stepKeepsInvariant : Obligations.StepKeepsInvariant := by
  intro s t hs h
  cases hin : s.inputs with
  | nil =>
    simp only [step, hin] at h
    cases h
    exact hs
  | cons e rest => exact inv_of_takeInput (s := s.setInputs rest) hs ((step_of_inputs_cons hin).symm.trans h)

end Sys2Proof.Machine

/-! PROOFS. The encodings (30_encoding.md): digits and the numbers they spell; the decoder of the receive line read as the
inverse of the wire format, in both directions; the command port. -/

namespace Sys2Proof.Machine

/-! ### Digits and numbers -/

/-- The digits of a string are read one part after the other. -/
theorem unhexFrom_append (acc : Nat) (s t : Str) :
    unhexFrom acc (s ++ t) = (unhexFrom acc s).bind (unhexFrom · t) := by
  induction s generalizing acc with
  | nil => rfl
  | cons c s ih => cases hc : hexVal c <;> simp [unhexFrom, hc, ih]

/-- `UNHEX` reads back what `HEX_k` writes, where `k` digits are enough (R45). -/
theorem unhex_hexDigits {k v : Nat} (h : v < 16 ^ k) : unhex (hexDigits k v) = some v := by
  induction k generalizing v with
  | zero => simp [hexDigits, unhex, unhexFrom, Nat.lt_one_iff.1 h]
  | succ k ih =>
    have hhigh : unhexFrom 0 (hexDigits k (v / 16)) = some (v / 16) :=
      ih (Nat.div_lt_of_lt_mul (by rwa [Nat.pow_succ'] at h))
    simp [hexDigits, unhex, unhexFrom_append, hhigh, unhexFrom, Nat.div_add_mod]

/-- Settles O14: the first law by induction on the number of digits, the second from the digits read so far. -/
theorem unhexInvertsHex : Obligations.UnhexInvertsHex := by
  refine ⟨fun k v h => unhex_hexDigits h, fun x v h => ⟨?_, ?_⟩⟩
  · simpa using unhexFrom_lt (k := 0) (by simp) h
  · simpa [hexDigits] using hexDigits_of_unhexFrom 0 h

/-- A field reads back the digits of its value (R44, R45). -/
@[simp] theorem unhexField_hexDigits {k : Nat} (v : BitVec (4 * k)) : unhexField k (hexDigits k v.toNat) = some v := by
  have hlt : v.toNat < 16 ^ k := by simpa [Nat.pow_mul] using v.isLt
  simp [unhexField, unhex_hexDigits hlt]

@[simp] theorem unhexField_hex2 (v : BitVec 8) : unhexField 2 (hex2 v) = some v := unhexField_hexDigits (k := 2) v

@[simp] theorem unhexField_hex4 (v : BitVec 16) : unhexField 4 (hex4 v) = some v := unhexField_hexDigits (k := 4) v

@[simp] theorem decU16_hex4 (v : BitVec 16) : decU16 (hex4 v) = some v := unhexField_hex4 v

/-- Every string of `k` characters of `HEXU` is a field. -/
theorem exists_unhexField {k : Nat} {s : Str} (hlen : s.length = k) (hhex : s.all isHexU = true) :
    ∃ v, unhexField k s = some v := by
  obtain ⟨n, hn⟩ := Option.isSome_iff_exists.1 ((unhex_isSome s).trans hhex)
  exact ⟨BitVec.ofNat (4 * k) n, by simp [unhexField, hlen, hn]⟩

/-! ### The error marker in fields and frames -/

theorem hexU_no_marker {s : Str} (h : s.all isHexU = true) : s.all (· != chPlus) = true := by
  simp only [List.all_eq_true, bne_iff_ne] at h ⊢
  exact fun b hb => (isHexU_ascii (h b hb)).2

theorem token_no_marker {c : Config} {op : Str} (h : frameTokenOk c op = true) : op.all (· != chPlus) = true := by
  simp only [frameTokenOk, tokenOk, Bool.and_eq_true, List.all_eq_true, bne_iff_ne] at h ⊢
  exact fun b hb => (isTok_ascii (h.2 b hb)).2

/-- The digits of a frame hold no error marker, so what is left is its preamble and its payload (R49, R104). -/
theorem dataFrame_no_marker {x : Byte} {a : BitVec 8} {q : BitVec 16} {p : Str} :
    (dataFrame x a q p).all (· != chPlus) = true ↔ x ≠ chPlus ∧ p.all (· != chPlus) = true := by
  have ha := hexU_no_marker (hex2_all_isHexU a)
  have hq := hexU_no_marker (hex4_all_isHexU q)
  have hk := hexU_no_marker (hex4_all_isHexU (checksum (x :: (hex2 a ++ hex4 q ++ p))))
  simp only [dataFrame, withChecksum, List.cons_append, List.all_cons, List.all_append, ha, hq, hk, Bool.and_true,
    Bool.true_and, Bool.and_eq_true, bne_iff_ne]

/-! ### Payloads of requests -/

/-- `RequestRow c a q p i`: `i` is a request row with header fields `a` and `q` whose token and tail make up `p` (R48). -/
inductive RequestRow (c : Config) (a : BitVec 8) (q : BitVec 16) : Str → Instr → Prop
  | bare {op : Str} (hop : frameTokenOk c op = true) : RequestRow c a q (op ++ bareTail) (.reqBare a q op)
  | read {op : Str} (id : BitVec 16) (inst : BitVec 8) (hop : frameTokenOk c op = true) :
      RequestRow c a q (op ++ readTail id inst) (.reqRead a q op id inst)
  | write {op val : Str} (id : BitVec 16) (inst : BitVec 8) (hop : frameTokenOk c op = true) (hval : valueOk val = true) :
      RequestRow c a q (op ++ writeTail id inst val) (.reqWrite a q op id inst val)

section
variable {c : Config} {a : BitVec 8} {q : BitVec 16} {p : Str} {i : Instr}

theorem RequestRow.wellFormed (h : RequestRow c a q p i) : wellFormed c i = true := by
  cases h <;> simp [Sys2Proof.wellFormed, *]

theorem RequestRow.isRequestPayload (h : RequestRow c a q p i) : isRequestPayload c p = true := by
  cases h with
  | bare hop => exact isRequestPayload_append hop isTail_bareTail
  | read id inst hop => exact isRequestPayload_append hop (isTail_readTail id inst)
  | write id inst hop hval => exact isRequestPayload_append hop (isTail_writeTail id inst hval)

theorem RequestRow.no_marker (h : RequestRow c a q p i) : p.all (· != chPlus) = true := by
  have key {op tail : Str} (hop : frameTokenOk c op = true) (ht : IsTail tail) :
      (op ++ tail).all (· != chPlus) = true := by
    rw [List.all_append, token_no_marker hop, hexU_no_marker ht.1, Bool.and_self]
  cases h with
  | bare hop => exact key hop isTail_bareTail
  | read id inst hop => exact key hop (isTail_readTail id inst)
  | write id inst hop hval => exact key hop (isTail_writeTail id inst hval)

theorem append_eq_of_request_eq_dataFrame {op tail : Str}
    (h : PortWord.line (request a q op tail) = .line (dataFrame Config.reqPreamble a q p)) : op ++ tail = p := by
  rw [request_eq_dataFrame, PortWord.line.injEq] at h
  simpa using congrArg (fun s => (beforeChecksum s).drop Config.hdrLen) h

/-- Whatever the decoder reads in a payload is a request row with that payload. -/
theorem requestRow_of_decodeRequestPayload (h : decodeRequestPayload c a q p = some i) : RequestRow c a q p i := by
  have henc := encode_of_decodeRequestPayload h
  unfold decodeRequestPayload at h
  split at h
  · next hop =>
    cases h
    have hrow := RequestRow.bare (a := a) (q := q) hop
    rwa [append_eq_of_request_eq_dataFrame henc] at hrow
  · simp only at h
    split at h
    · next id inst hop _ _ =>
      cases h
      have hrow := RequestRow.read (a := a) (q := q) id inst hop
      rwa [append_eq_of_request_eq_dataFrame henc] at hrow
    · split at h
      · next id inst hopval _ _ =>
        cases h
        obtain ⟨hop, hval⟩ := Bool.and_eq_true_iff.1 hopval
        have hrow := RequestRow.write (a := a) (q := q) id inst hop hval
        rwa [append_eq_of_request_eq_dataFrame henc] at hrow
      · cases h

theorem all_isHexU_of_subset {s t : Str} (hs : s ⊆ t) (ht : t.all isHexU = true) : s.all isHexU = true := by
  simp only [List.all_eq_true] at ht ⊢
  exact fun b hb => ht b (hs hb)

/-- The first six characters of a tail are its two fixed fields (R48). -/
theorem exists_id_inst {t : Str} (hlen : 6 ≤ t.length) (hhex : t.all isHexU = true) :
    (∃ id : BitVec 16, unhexField 4 (t.take 4) = some id) ∧
      ∃ inst : BitVec 8, unhexField 2 ((t.drop 4).take 2) = some inst := by
  have hid : (t.take 4).length = 4 := by simp; omega
  have hinst : ((t.drop 4).take 2).length = 2 := by simp; omega
  exact ⟨exists_unhexField hid (all_isHexU_of_subset (List.take_subset ..) hhex), exists_unhexField hinst
    (all_isHexU_of_subset (fun _ hb => List.mem_of_mem_drop (List.mem_of_mem_take hb)) hhex)⟩

/-- The decoder reads every payload of a request as one (R51). -/
theorem isRequestPayload_eq_false_of_decodeRequestPayload (h : decodeRequestPayload c a q p = none) :
    isRequestPayload c p = false := by
  unfold decodeRequestPayload at h
  split at h
  · cases h
  next hbare =>
  simp only at h
  split at h
  · cases h
  next hread =>
  split at h
  · cases h
  next hwrite =>
  refine Bool.eq_false_iff.2 fun hp => ?_
  simp only [isRequestPayload, hbare, Bool.false_or, Bool.or_eq_true, Bool.and_eq_true, decide_eq_true_eq] at hp
  rcases hp with ⟨⟨hlen, hop⟩, hhex⟩ | ⟨⟨hlen, hop⟩, hhex⟩
  · have htail : (p.drop (p.length - 6)).length = 6 := by simp; omega
    obtain ⟨⟨id, hid⟩, inst, hinst⟩ := exists_id_inst htail.ge hhex
    rw [List.take_of_length_le (by rw [List.length_drop, htail])] at hinst
    exact hread id inst hop hid hinst
  · have htail : (p.drop (p.length - 14)).length = 14 := by simp; omega
    obtain ⟨⟨id, hid⟩, inst, hinst⟩ := exists_id_inst (by omega) hhex
    have hval : valueOk ((p.drop (p.length - 14)).drop 6) = true := by
      rw [valueOk, List.length_drop, htail, all_isHexU_of_subset (List.drop_subset ..) hhex]
      rfl
    exact hwrite id inst (Bool.and_eq_true_iff.2 ⟨hop, hval⟩) hid hinst

/-! A tail is cut where its fields meet (R48). -/

@[simp] theorem take_readTail (id : BitVec 16) (inst : BitVec 8) : (readTail id inst).take 4 = hex4 id := by
  simp [readTail]

@[simp] theorem drop_readTail (id : BitVec 16) (inst : BitVec 8) : (readTail id inst).drop 4 = hex2 inst := by
  simp [readTail]

@[simp] theorem take_writeTail (id : BitVec 16) (inst : BitVec 8) (val : Str) :
    (writeTail id inst val).take 4 = hex4 id := by
  simp [writeTail]

@[simp] theorem take_drop_writeTail (id : BitVec 16) (inst : BitVec 8) (val : Str) :
    ((writeTail id inst val).drop 4).take 2 = hex2 inst := by
  simp [writeTail]

@[simp] theorem drop_writeTail (id : BitVec 16) (inst : BitVec 8) (val : Str) : (writeTail id inst val).drop 6 = val := by
  simp [writeTail, List.drop_append]

/-- Six characters more than a token are no token where the token bounds separate the forms (R51). -/
theorem frameTokenOk_eq_false_of_longer {op s : Str} (hsep : c.opTokenMax < c.opTokenMin + 6)
    (hop : frameTokenOk c op = true) (hs : op.length + 6 ≤ s.length) : frameTokenOk c s = false := by
  simp only [frameTokenOk, tokenOk, Bool.and_eq_true, decide_eq_true_eq] at hop
  have hlong : ¬ s.length ≤ c.opTokenMax := by omega
  simp [frameTokenOk, tokenOk, hlong]

/-- Where the token bounds separate the three forms (R51), a request row is read as itself. -/
theorem decodeRequestPayload_of_requestRow (hsep : c.opTokenMax < c.opTokenMin + 6) (h : RequestRow c a q p i) :
    decodeRequestPayload c a q p = some i := by
  cases h with
  | bare hop => simp [decodeRequestPayload, bareTail, hop]
  | @read op id inst hop =>
    have hbare := frameTokenOk_eq_false_of_longer (s := op ++ readTail id inst) hsep hop (by simp)
    simp [decodeRequestPayload, hbare, hop]
  | @write op val id inst hop hval =>
    have hlen : val.length = 8 := by
      simp only [valueOk, Bool.and_eq_true, decide_eq_true_eq] at hval
      exact hval.1
    have hbare := frameTokenOk_eq_false_of_longer (s := op ++ writeTail id inst val) hsep hop (by simp)
    have hread := frameTokenOk_eq_false_of_longer (s := (op ++ writeTail id inst val).take (op.length + 8)) hsep hop
      (by simp [hlen])
    simp [decodeRequestPayload, hbare, hread, hop, hval, hlen]

end

/-! ### Data frames -/

/-- The row a data frame with these fields is read as: the request it also is, if any (R112), else the data response. -/
def frameRow (c : Config) (x : Byte) (a : BitVec 8) (q : BitVec 16) (p : Str) : Instr :=
  (if x = Config.reqPreamble then decodeRequestPayload c a q p else none).getD (.rspData x a q p)

section
variable {c : Config} {x : Byte} {a : BitVec 8} {q : BitVec 16} {p l : Str} {i : Instr}

theorem frameRow_of_requestRow (hsep : c.opTokenMax < c.opTokenMin + 6) (h : RequestRow c a q p i) :
    frameRow c Config.reqPreamble a q p = i := by
  simp [frameRow, decodeRequestPayload_of_requestRow hsep h]

/-- A data response that is no request is read as itself. -/
theorem frameRow_of_wellFormed (h : wellFormed c (.rspData x a q p) = true) : frameRow c x a q p = .rspData x a q p := by
  unfold frameRow
  split
  · next hx =>
    cases hi : decodeRequestPayload c a q p with
    | none => rfl
    | some i => simp [wellFormed, hx, (requestRow_of_decodeRequestPayload hi).isRequestPayload] at h
  · rfl

/-- The row a data frame without a marker is read as is well formed (R48, R49). -/
theorem wellFormed_frameRow (hx : x ≠ chPlus) (hp : p.all (· != chPlus) = true) :
    wellFormed c (frameRow c x a q p) = true := by
  unfold frameRow
  split
  · cases hi : decodeRequestPayload c a q p with
    | none => simp [wellFormed, hx, hp, isRequestPayload_eq_false_of_decodeRequestPayload hi]
    | some i => exact (requestRow_of_decodeRequestPayload hi).wellFormed
  · next hreq => simp [wellFormed, hx, hp, hreq]

theorem encode_frameRow : encode (frameRow c x a q p) = .line (dataFrame x a q p) := by
  unfold frameRow
  split
  · next hx =>
    subst hx
    cases hi : decodeRequestPayload c a q p with
    | none => rfl
    | some i => exact encode_of_decodeRequestPayload hi
  · rfl

theorem decodeData_of_fields {rest : Str} (ha : unhexField 2 (((x :: rest).drop 1).take 2) = some a)
    (hq : unhexField 4 (((x :: rest).drop 3).take 4) = some q)
    (hk : decU16 (checksumField (x :: rest)) = some (checksum (beforeChecksum (x :: rest)))) :
    decodeData c (x :: rest) = .ok (frameRow c x a q ((beforeChecksum (x :: rest)).drop Config.hdrLen)) := by
  unfold checksumField beforeChecksum at hk
  unfold decodeData frameRow beforeChecksum
  simp only [ha, hq, hk, ne_eq, not_true_eq_false, if_false]
  split
  · next hi => rw [hi]; rfl
  · next hi => rw [hi]; rfl

/-- The decoder finds the fields of a data frame again (R37, R49). -/
theorem decodeData_dataFrame : decodeData c (dataFrame x a q p) = .ok (frameRow c x a q p) := by
  have ha : unhexField 2 (((dataFrame x a q p).drop 1).take 2) = some a := by
    simp [dataFrame, withChecksum]
  have hq : unhexField 4 (((dataFrame x a q p).drop 3).take 4) = some q := by
    simp [dataFrame, withChecksum]
  have hk : decU16 (checksumField (dataFrame x a q p)) = some (checksum (beforeChecksum (dataFrame x a q p))) := by
    simp [dataFrame]
  exact (decodeData_of_fields ha hq hk).trans (congrArg _ (congrArg _ (payload_dataFrame x a q p)))

/-- Whatever the decoder cuts into fields is the data frame with these fields. -/
theorem exists_fields_of_decodeData (hlen : 11 ≤ l.length) (h : decodeData c l = .ok i) :
    ∃ x a q p, l = dataFrame x a q p ∧ i = frameRow c x a q p := by
  have key : ∃ x a q p, i = frameRow c x a q p := by
    unfold decodeData at h
    simp only at h
    split at h
    · next x rest a q k _ _ _ =>
      refine ⟨x, a, q, (beforeChecksum (x :: rest)).drop Config.hdrLen, ?_⟩
      split at h
      · cases h
      · split at h
        · next hi => cases h; exact (congrArg (Option.getD · _) hi).symm
        · next hi => cases h; exact (congrArg (Option.getD · _) hi).symm
    · cases h
  obtain ⟨x, a, q, p, rfl⟩ := key
  exact ⟨x, a, q, p, PortWord.line.inj ((encode_of_decodeData hlen h).symm.trans encode_frameRow), rfl⟩

/-! ### The receive line -/

/-- A string without a marker is read as a data frame (R104). -/
theorem decodeLine_of_no_marker (hlen : 11 ≤ l.length) (h : l.all (· != chPlus) = true) :
    decodeLine c l = decodeData c l := by
  have hlong : ¬ l.length < Config.hdrLen + Config.cksLen := Nat.not_lt.2 hlen
  rw [decodeLine, if_neg hlong, List.dropWhile_eq_nil_iff.2 (List.all_eq_true.1 h)]

theorem decodeLine_dataFrame (hx : x ≠ chPlus) (hp : p.all (· != chPlus) = true) :
    decodeLine c (dataFrame x a q p) = .ok (frameRow c x a q p) :=
  (decodeLine_of_no_marker (by simp) (dataFrame_no_marker.2 ⟨hx, hp⟩)).trans decodeData_dataFrame

/-- The digit of an error code (R50, R105). -/
theorem isDecimal_hexChar : ∀ d : BitVec 4, d < 10#4 →
    isDecimal (hexChar d) = true ∧ (hexChar d - ch0).setWidth 4 = d := by
  decide

theorem code_lt_of_isDecimal : ∀ d : Byte, isDecimal d = true → (d - ch0).setWidth 4 < 10#4 := by
  decide

/-- An error frame is cut at its first marker (R50). -/
theorem decodeLine_errorFrame {before after : Str} {d : BitVec 4}
    (h : wellFormed c (.rspError before d after) = true) :
    decodeLine c (errorFrame before d after) = .ok (.rspError before d after) := by
  simp only [wellFormed, Bool.and_eq_true, decide_eq_true_eq] at h
  obtain ⟨⟨hbefore, hd⟩, hlen⟩ := h
  obtain ⟨hdec, hval⟩ := isDecimal_hexChar d hd
  have hlong : ¬ (errorFrame before d after).length < Config.hdrLen + Config.cksLen :=
    Nat.not_lt.2 (hlen.trans_eq (errorFrame_length ..).symm)
  have hp := List.all_eq_true.1 hbefore
  have hcut : (errorFrame before d after).dropWhile (· != chPlus) = chPlus :: ch0 :: hexChar d :: after := by
    simp [errorFrame, List.dropWhile_append_of_pos hp]
  have hkeep : (errorFrame before d after).takeWhile (· != chPlus) = before := by
    simp [errorFrame, List.takeWhile_append_of_pos hp]
  rw [decodeLine, if_neg hlong, hcut]
  simp [hkeep, hdec, hval]

/-- A request row is read as itself where the token bounds separate the forms (R51). -/
theorem decode_encode_of_requestRow (hsep : c.opTokenMax < c.opTokenMin + 6) (h : RequestRow c a q p i)
    (hi : encode i = .line (dataFrame Config.reqPreamble a q p)) : decode c (encode i) = .ok i := by
  rw [hi, decode, decodeLine_dataFrame (by decide) h.no_marker, frameRow_of_requestRow hsep h]

/-- What a string is decoded to is well formed. -/
theorem wellFormed_of_decodeLine (h : decodeLine c l = .ok i) : wellFormed c i = true := by
  have henc := encode_of_decodeLine h
  unfold decodeLine at h
  split at h
  · cases h
  · next hlen =>
    split at h
    · next hdrop =>
      have hno := List.all_eq_true.2 (List.dropWhile_eq_nil_iff.1 hdrop)
      obtain ⟨x, a, q, p, rfl, rfl⟩ := exists_fields_of_decodeData (Nat.not_lt.1 hlen) h
      obtain ⟨hx, hp⟩ := dataFrame_no_marker.1 hno
      exact wellFormed_frameRow hx hp
    · next m z d after hdrop =>
      split at h
      · next hzd =>
        cases h
        have hdec := code_lt_of_isDecimal d (Bool.and_eq_true_iff.1 hzd).2
        have hlong : 11 ≤ (l.takeWhile (· != chPlus)).length + 3 + after.length := by
          rw [← errorFrame_length, PortWord.line.inj henc]
          exact Nat.not_lt.1 hlen
        simp [wellFormed, List.all_takeWhile, hdec, hlong]
      · cases h
    · cases h

end

/-- Settles O48: a command by its code, a request through `RequestRow`, a data response as the frame it is, an error frame
by its first marker. -/
theorem decodeInvertsEncode : Obligations.DecodeInvertsEncode := by
  intro c i hsep h
  cases i with
  | reqBare a q op => exact decode_encode_of_requestRow hsep (.bare h) (congrArg _ (request_eq_dataFrame ..))
  | reqRead a q op id inst =>
    exact decode_encode_of_requestRow hsep (.read id inst h) (congrArg _ (request_eq_dataFrame ..))
  | reqWrite a q op id inst val =>
    obtain ⟨hop, hval⟩ := Bool.and_eq_true_iff.1 h
    exact decode_encode_of_requestRow hsep (.write id inst hop hval) (congrArg _ (request_eq_dataFrame ..))
  | rspData x a q p =>
    have hrow := frameRow_of_wellFormed h
    simp only [wellFormed, Bool.and_eq_true, bne_iff_ne] at h
    obtain ⟨⟨hx, hp⟩, -⟩ := h
    exact (decodeLine_dataFrame hx hp).trans (congrArg _ hrow)
  | rspError before d after => exact decodeLine_errorFrame h
  | _ => rfl

/-- Settles O49, both halves from what `decodeLine` can answer. -/
theorem encodeInvertsDecodeOfLines : Obligations.EncodeInvertsDecodeOfLines :=
  fun _ _ _ h => ⟨wellFormed_of_decodeLine h, encode_of_decodeLine h⟩

/-! ### The command port -/

/-- Settles O33: the code decodes to the row, and the row only writes `RESULT`. -/
theorem reservedCodeIsRefused : Obligations.ReservedCodeIsRefused :=
  fun _ => ⟨rfl, rfl⟩

/-- Settles O50: the example request is computed, and each code has its arm in the decoder. -/
theorem tabledWordsDecode : Obligations.TabledWordsDecode := by
  refine ⟨?_, fun _ _ _ _ _ _ => ?_⟩
  · decide
  · rfl

end Sys2Proof.Machine

/-! PROOFS. The Checksum Engine (40_crc.md): the table step as eight bits of the linear recurrence, and what a fold of it keeps
of its start and of its bytes; the operations. -/

namespace Sys2Proof.Machine

/-! ### The step as eight bits of the recurrence -/

/-- Of a value below 256 no bit is shifted out of the top in eight bits of the recurrence. -/
theorem crcBits_eight_low : ∀ l : Byte, crcBits 8 (l.setWidth 16) = (l.setWidth 16) <<< 8 := by
  decide

/-- A running value is its two halves, each in its place. -/
theorem crcWord_eq_halves (c : CrcWord) :
    c = ((c.extractLsb' 8 8).setWidth 16) <<< 8 ^^^ (c.setWidth 8).setWidth 16 := by
  refine BitVec.eq_of_getLsbD_eq fun i hi => ?_
  by_cases h : i < 8
  · simp [h, hi]
  · have hlow : i - 8 < 8 := by omega
    have hback : 8 + (i - 8) = i := by omega
    simp [h, hi, hlow, hback]

/-- What is left of a running value shifted by a byte is its low half. -/
theorem shiftLeft_eight_eq_low (c : CrcWord) : c <<< 8 = ((c.setWidth 8).setWidth 16) <<< 8 := by
  refine BitVec.eq_of_getLsbD_eq fun i hi => ?_
  have hlow : i - 8 < 8 := by omega
  have hwide : i - 8 < 16 := by omega
  simp [hlow, hwide]

/-- Eight bits of the recurrence look the high half up in the table and shift the low half (R27, R65). -/
theorem crcBits_eight (c : CrcWord) : crcBits 8 c = c <<< 8 ^^^ crcTable (c.extractLsb' 8 8) := by
  rw [crcTable_eq_crcTableEntry, crcTableEntry, shiftLeft_eight_eq_low, ← crcBits_eight_low, BitVec.xor_comm,
    ← crcBits_xor, ← crcWord_eq_halves]

theorem crcStep_eq_bitwise (c : CrcWord) (b : Byte) : crcStep c b = crcStepBitwise c b := by
  calc crcStep c b
      = c <<< 8 ^^^ crcTable (c.extractLsb' 8 8) ^^^ crcTable b := by rw [crcStep, crcTable_xor, BitVec.xor_assoc]
    _ = crcBits 8 c ^^^ crcBits 8 ((b.setWidth 16) <<< 8) := by
        rw [crcBits_eight, crcTable_eq_crcTableEntry b, crcTableEntry]
    _ = crcStepBitwise c b := by rw [← crcBits_xor, crcStepBitwise]

/-- Settles O3: the step from the linearity of the recurrence, the check value computed. -/
theorem tableStepIsBitSerial : Obligations.TableStepIsBitSerial := by
  refine ⟨crcStep_eq_bitwise, ?_⟩
  decide

/-! ### What the step keeps apart -/

/-- The low bit of the polynomial is set and of a shifted value it is not, so no bit of the recurrence is lost. -/
theorem eq_zero_of_crcBit_eq_zero {r : CrcWord} (h : crcBit r = 0#16) : r = 0#16 := by
  unfold crcBit at h
  split at h
  · have hlow := congrArg (BitVec.getLsbD · 0) h
    simp [crcPoly] at hlow
  · next hmsb =>
    have hlt := BitVec.msb_eq_false_iff_two_mul_lt.1 (Bool.eq_false_iff.2 hmsb)
    bv_omega

theorem crcBit_injective : Function.Injective crcBit := fun a b h =>
  BitVec.xor_eq_zero_iff.1 (eq_zero_of_crcBit_eq_zero (by rw [crcBit_xor, h, BitVec.xor_self]))

theorem crcBits_injective (k : Nat) : Function.Injective (crcBits k) := by
  induction k with
  | zero => exact Function.injective_id
  | succ k ih => exact ih.comp crcBit_injective

/-- Two running values stay apart when fed the same byte. -/
theorem crcStep_left_injective (b : Byte) : Function.Injective (crcStep · b) := fun c d h => by
  simp only [crcStep_eq_bitwise, crcStepBitwise] at h
  exact (BitVec.xor_left_inj _).1 (crcBits_injective 8 h)

/-- Two bytes take the same running value apart: the entries of the table are distinct (R28). -/
theorem crcStep_right_injective (c : CrcWord) : Function.Injective (crcStep c) := fun _ _ h =>
  (BitVec.xor_right_inj _).1 (crcTableLinearDistinct.2 _ _ ((BitVec.xor_right_inj _).1 h))

/-- Settles O8: an injection of a finite type into itself. -/
theorem zeroByteStepBijective : Obligations.ZeroByteStepBijective :=
  Finite.injective_iff_bijective.1 (crcStep_left_injective 0x00#8)

/-! ### The fold over a string -/

@[simp] theorem crcFold_nil (c : CrcWord) : crcFold c [] = c := rfl

@[simp] theorem crcFold_cons (c : CrcWord) (b : Byte) (s : Str) : crcFold c (b :: s) = crcFold (crcStep c b) s := rfl

theorem crcFold_append (c : CrcWord) (s t : Str) : crcFold c (s ++ t) = crcFold (crcFold c s) t :=
  List.foldl_append

theorem crcStep_xor (c d : CrcWord) (a b : Byte) : crcStep (c ^^^ d) (a ^^^ b) = crcStep c a ^^^ crcStep d b := by
  have hidx : (c ^^^ d).extractLsb' 8 8 ^^^ (a ^^^ b) = (c.extractLsb' 8 8 ^^^ a) ^^^ (d.extractLsb' 8 8 ^^^ b) := by
    rw [BitVec.extractLsb'_xor]
    ac_rfl
  rw [crcStep, hidx, crcTable_xor, BitVec.shiftLeft_xor_distrib, crcStep, crcStep]
  ac_rfl

/-- The fold is linear in its start and its string together. -/
theorem crcFold_zipWith_xor {x y : Str} (h : x.length = y.length) (c d : CrcWord) :
    crcFold (c ^^^ d) (List.zipWith (fun a b => a ^^^ b) x y) = crcFold c x ^^^ crcFold d y := by
  induction x generalizing y c d with
  | nil => cases List.length_eq_zero_iff.1 h.symm; rfl
  | cons a x ih =>
    cases y with
    | nil => cases h
    | cons b y => simp [← ih (Nat.succ.inj h), crcStep_xor]

/-- Settles O7: both are facts of the fold from any start, taken at 0 = 0 xor 0. -/
theorem checksumAppendsAndIsLinear : Obligations.ChecksumAppendsAndIsLinear :=
  ⟨fun x y => crcFold_append _ x y, fun _ _ h => crcFold_zipWith_xor h 0x0000#16 0x0000#16⟩

theorem crcFold_injective (s : Str) : Function.Injective (crcFold · s) := by
  induction s with
  | nil => exact Function.injective_id
  | cons b s ih => exact ih.comp (crcStep_left_injective b)

/-- Settles O9: the altered byte takes the running values apart, and no later byte brings them together. -/
theorem alteredByteAltersChecksum : Obligations.AlteredByteAltersChecksum := by
  intro x y b b' hne h
  simp only [checksum, crcFold_append, crcFold_cons] at h
  exact hne (crcStep_right_injective _ (crcFold_injective y h))

/-- A zero byte leaves a running value of 0 where it is. -/
theorem checksum_zero_cons (x : Str) : checksum (0x00#8 :: x) = checksum x := by
  have hstep : crcStep Config.crcInit 0x00#8 = Config.crcInit := by decide
  rw [checksum, crcFold_cons, hstep, checksum]

theorem checksum_replicate_zero (n : Nat) : checksum (List.replicate n 0x00#8) = 0x0000#16 := by
  induction n with
  | zero => rfl
  | succ n ih => rw [List.replicate_succ, checksum_zero_cons, ih]

/-! ### The operations -/

/-- Feeding the bytes of a string one after another folds them into `CRC` (R65). -/
theorem foldl_crcUpd (x : Str) (c : CrcWord) (s : State) :
    x.foldl (fun o b => andThen o (exec (.crcUpd b))) (.next ((s.setCrc c).succeed .none)) =
      .next ((s.setCrc (crcFold c x)).succeed .none) := by
  induction x generalizing c with
  | nil => rfl
  | cons b x ih => exact ih (crcStep c b)

/-- Settles O6: the streamed sequence by `foldl_crcUpd` from the cleared `CRC`. -/
theorem checksumIsStreamed : Obligations.ChecksumIsStreamed := by
  refine ⟨fun x s => ⟨rfl, ?_⟩, fun _ _ _ => rfl, checksum_replicate_zero, checksum_zero_cons⟩
  have hfed := foldl_crcUpd x Config.crcInit s
  exact (congrArg (andThen · (exec .crcRd)) hfed).symm

/-- Settles O4: the index is the high byte, by one shift. -/
theorem crcUpdFoldsOneByte : Obligations.CrcUpdFoldsOneByte := by
  intro b s
  rw [BitVec.setWidth_ushiftRight_eq_extractLsb]
  rfl

/-- Settles O5; the two rows write no register but the ones they name. -/
theorem crcClearAndRead : Obligations.CrcClearAndRead :=
  ⟨fun _ => rfl, fun _ => rfl, fun _ => rfl, fun _ _ => rfl⟩

end Sys2Proof.Machine

/-! PROOFS. The integer codec (41_hexint.md): the digits of a pattern as its 4-bit fields; the number the digits of a string
spell, written without `HEXVAL`; the encoders and the decoder as inverses of each other. -/

namespace Sys2Proof.Machine

/-! ### The digits of a pattern -/

/-- The digits of a pattern are its 4-bit fields, the highest first (R44). -/
theorem hexDigits_toNat {w : Nat} (k : Nat) (v : BitVec w) :
    hexDigits k v.toNat = (List.range k).reverse.map fun i => hexChar (v.extractLsb' (4 * i) 4) := by
  induction k generalizing v with
  | zero => rfl
  | succ k ih =>
    have hhigh : v.toNat / 16 = (v >>> 4).toNat := by simp [Nat.shiftRight_eq_div_pow]
    have hfield (i : Nat) : (v >>> 4).extractLsb' (4 * i) 4 = v.extractLsb' (4 * (i + 1)) 4 := by
      simp [BitVec.extractLsb', ← Nat.shiftRight_add, Nat.mul_add, Nat.add_comm]
    have hlow : BitVec.ofNat 4 v.toNat = v.extractLsb' (4 * 0) 4 := rfl
    rw [hexDigits, hhigh, ih, hlow]
    simp only [hfield, List.range_succ_eq_map, List.reverse_cons, List.map_append, ← List.map_reverse, List.map_map]
    rfl

/-- The answer of an integer encoder, digit by digit. -/
theorem answer_hexDigits_toNat {w : Nat} (k : Nat) (v : BitVec w) (s : State) :
    Host.Outcome.next (s.succeed (.str (hexDigits k v.toNat))) =
      (.next (s.succeed (.str ((List.range k).reverse.map fun i => hexChar (v.extractLsb' (4 * i) 4)))) :
        Host.Outcome State Fault Refusal) := by
  rw [hexDigits_toNat]

/-- Settles O11: an encoder answers `HEX_k` of its operand, and those digits are its fields. -/
theorem integerEncodersRenderDigits : Obligations.IntegerEncodersRenderDigits :=
  ⟨answer_hexDigits_toNat 2, answer_hexDigits_toNat 4, answer_hexDigits_toNat 8⟩

/-! ### What the host reads after an operation that answers -/

@[simp] theorem State.readValue_succeed_str (s : State) (x : Str) : (s.succeed (.str x)).readValue = some (.str x) := rfl

@[simp] theorem State.readValue_succeed_u32 (s : State) (v : BitVec 32) : (s.succeed (.u32 v)).readValue = some (.u32 v) := rfl

@[simp] theorem valueText_succeed_str (s : State) (x : Str) : valueText (s.succeed (.str x)) = x := rfl

/-! ### Width and alphabet -/

/-- The alphabet `HEXU` as its two ranges of bytes (R40). -/
theorem isHexU_iff (c : Byte) : isHexU c = true ↔ (0x30#8 ≤ c ∧ c ≤ 0x39#8) ∨ (0x41#8 ≤ c ∧ c ≤ 0x46#8) := by
  revert c; decide

/-- Every encoder answers a string of `k` digits, `k` fixed by the encoder (R74 to R76, R87). -/
theorem exec_encoder {i : Instr} {k : Nat}
    (hi : (∃ v, i = .encU8 v ∧ k = 2) ∨ (∃ v, i = .encU16 v ∧ k = 4) ∨ (∃ v, i = .encI32 v ∧ k = 8) ∨
      (∃ v, i = .encF32 v ∧ k = 8)) (s : State) :
    ∃ v, exec i s = .next (s.succeed (.str (hexDigits k v))) := by
  rcases hi with ⟨v, rfl, rfl⟩ | ⟨v, rfl, rfl⟩ | ⟨v, rfl, rfl⟩ | ⟨v, rfl, rfl⟩ <;> exact ⟨_, rfl⟩

/-- Settles O13: width and alphabet are those of `HEX_k`. -/
theorem encodedFieldsHaveFixedWidth : Obligations.EncodedFieldsHaveFixedWidth := by
  intro i k s t hi h
  obtain ⟨v, e⟩ := exec_encoder hi s
  cases e.symm.trans h
  have hhex := List.all_eq_true.1 (hexDigits_all_isHexU k v)
  exact ⟨_, s.readValue_succeed_str _, hexDigits_length k v, fun c hc => (isHexU_iff c).1 (hhex c hc)⟩

/-! ### The number a string spells -/

/-- The value of a digit character by its distance from `'0'` or, for a letter, from ten below `'A'` (R43). -/
def digitNat (c : Byte) : Nat := if c ≤ 0x39#8 then c.toNat - 0x30 else c.toNat - 0x37

/-- `HEXVAL` of a digit character is its distance (R43). -/
theorem hexVal_of_isHexU : ∀ {c : Byte}, isHexU c = true → ∃ d, hexVal c = some d ∧ d.toNat = digitNat c := by
  decide

/-- The value of a string of digits is built up from the left, sixteen times what stands before (R45). -/
theorem unhexFrom_eq_foldl {s : Str} (h : s.all isHexU = true) (acc : Nat) :
    unhexFrom acc s = some (s.foldl (fun n c => 16 * n + digitNat c) acc) := by
  induction s generalizing acc with
  | nil => rfl
  | cons c s ih =>
    rw [List.all_cons, Bool.and_eq_true] at h
    obtain ⟨d, hd, hnat⟩ := hexVal_of_isHexU h.1
    simp [unhexFrom, hd, hnat, ih h.2]

/-! ### The decoder -/

theorem exec_decI32_of_error {x : Str} {e : DigitsFault} (h : digits32 x = .error e) (s : State) :
    exec (.decI32 x) s = .next (s.raise (decodeFailure e)) := by
  rw [exec, execDecI32, h, finishDecode]

theorem exec_decI32_of_ok {x : Str} {v : BitVec 32} (h : digits32 x = .ok v) (s : State) :
    exec (.decI32 x) s = .next (s.succeed (.u32 v)) := by
  rw [exec, execDecI32, h, finishDecode]

/-- Settles O15: the cases of the operand's check, and the number spelled by `unhexFrom_eq_foldl`. -/
theorem decI32ReadsEightDigits : Obligations.DecI32ReadsEightDigits := by
  intro x s
  simp only [← isHexU_iff]
  rcases digits32_cases x with ⟨hlen, e⟩ | ⟨hlen, hhex, e⟩ | ⟨hlen, hhex, v, hv, e⟩
  · exact ⟨fun _ => exec_decI32_of_error e s, fun h => absurd h hlen, fun h => absurd h hlen⟩
  · exact ⟨fun h => absurd hlen h, fun _ _ => exec_decI32_of_error e s,
      fun _ hall => absurd (List.all_eq_true.2 hall) (by simp [hhex])⟩
  · refine ⟨fun h => absurd hlen h, fun _ ⟨c, hc, hbad⟩ => absurd (List.all_eq_true.1 hhex c hc) hbad, fun _ _ => ?_⟩
    cases hv.symm.trans (unhexFrom_eq_foldl hhex 0)
    have hlt := unhexFrom_lt (k := 0) (by simp) hv
    rw [hlen] at hlt
    exact ⟨hlt, exec_decI32_of_ok e s⟩

/-! ### The round trips -/

theorem exec_encI32 (v : BitVec 32) (s : State) : exec (.encI32 v) s = .next (s.succeed (.str (hex8 v))) := rfl

/-- The decoder's check accepts exactly the 8-digit fields (R79). -/
theorem digits32_eq_ok {x : Str} {v : BitVec 32} : digits32 x = .ok v ↔ unhexField 8 x = some v := by
  by_cases hlen : x.length = 8
  · cases e : unhex x <;> simp [digits32, unhexField, hlen, e]
  · simp [digits32, unhexField, hlen]

@[simp] theorem digits32_hex8 (v : BitVec 32) : digits32 (hex8 v) = .ok v :=
  digits32_eq_ok.2 (unhexField_hexDigits (k := 8) v)

theorem hex8_of_digits32 {x : Str} {v : BitVec 32} (h : digits32 x = .ok v) : hex8 v = x :=
  hexDigits_of_unhexField (digits32_eq_ok.1 h)

/-- `DEC_I32` of what `ENC_I32` answers gives back the operand (R80). -/
theorem exec_encI32_decI32 (v : BitVec 32) (s : State) :
    andThen (exec (.encI32 v) s) (fun u => exec (.decI32 (valueText u)) u) =
      .next ((s.succeed (.str (hex8 v))).succeed (.u32 v)) := by
  rw [exec_encI32, andThen_next, valueText_succeed_str, exec_decI32_of_ok (digits32_hex8 v)]

/-- A decoder that ends `OK` had a string its check accepts. -/
theorem finishDecode_result_ok {r : Except DigitsFault (BitVec 32)} {s : State} (h : (finishDecode r s).result = .ok) :
    ∃ v, r = .ok v ∧ finishDecode r s = s.succeed (.u32 v) := by
  rcases finishDecode_cases r s with hok | ⟨e, -, he⟩
  · exact hok
  · rw [he] at h
    cases e <;> cases h

/-- An int32 is the signed reading of the operand the host passes for it (R77). -/
theorem unsigned32_of_int32 {n : Int} (hlo : -2147483648 ≤ n) (hhi : n ≤ 2147483647) :
    ∃ v, unsigned32 n = some v ∧ signed32 v = n :=
  ⟨BitVec.ofInt 32 n, if_pos ⟨hlo, hhi⟩, BitVec.toInt_ofInt_eq_self (by decide) hlo (Int.lt_of_le_of_lt hhi (by decide))⟩

/-- Settles O17: `exec_encI32_decI32` and `hex8_of_digits32` for the operations, the laws of a field for 4 and 2 digits. -/
theorem integerRoundTrips : Obligations.IntegerRoundTrips := by
  refine ⟨fun n s hlo hhi => ?_, fun x s t h hok => ?_, decU16_hex4, unhexField_hex2, fun _ _ => hex4_of_unhexField,
    fun _ _ => hex2_of_unhexField⟩
  · obtain ⟨v, hv, hsigned⟩ := unsigned32_of_int32 hlo hhi
    exact ⟨v, _, hv, exec_encI32_decI32 v s, State.readValue_succeed_u32 .., hsigned⟩
  · cases h
    obtain ⟨v, hx, e⟩ := finishDecode_result_ok hok
    rw [e]
    refine ⟨v, _, State.readValue_succeed_u32 .., exec_encI32 .., ?_⟩
    rw [State.readValue_succeed_str, hex8_of_digits32 hx]

end Sys2Proof.Machine

/-! PROOFS. The float codec (42_hexfloat.md): a pattern as its four bytes, their digits and their order on the wire; the
encoder and the decoder as inverses of each other under either order. -/

namespace Sys2Proof.Machine

/-! ### The bytes of a pattern -/

/-- The digits of two patterns side by side are those of the one, then those of the other (R44). -/
theorem hexDigits_append {w : Nat} (j k : Nat) (x : BitVec w) (y : BitVec (4 * k)) :
    hexDigits (j + k) (x ++ y).toNat = hexDigits j x.toNat ++ hexDigits k y.toNat := by
  have hlow (i : Nat) (hi : i < k) : (x ++ y).extractLsb' (4 * i) 4 = y.extractLsb' (4 * i) 4 :=
    BitVec.extractLsb'_append_eq_of_add_le (by omega)
  have hhigh (i : Nat) : (x ++ y).extractLsb' (4 * (k + i)) 4 = x.extractLsb' (4 * i) 4 := by
    rw [BitVec.extractLsb'_append_eq_of_le (by omega), Nat.mul_add, Nat.add_sub_cancel_left]
  simp only [hexDigits_toNat]
  rw [Nat.add_comm j, List.range_add, List.reverse_append, List.map_append, ← List.map_reverse, List.map_map]
  congr 1
  · simp [hhigh]
  · exact List.map_congr_left fun i hi => congrArg hexChar (hlow i (by simpa using hi))

/-- The eight digits of a pattern are those of its four bytes, the highest first (R87). -/
theorem hex8_append (a b c d : Byte) : hex8 (a ++ b ++ c ++ d) = hex2 a ++ hex2 b ++ hex2 c ++ hex2 d := by
  rw [hex8, hexDigits_append 6 2 (a ++ b ++ c) d, hexDigits_append 4 2 (a ++ b) c, hexDigits_append 2 2 a b]
  rfl

theorem exists_append {w k : Nat} (p : BitVec (w + k)) : ∃ (x : BitVec w) (y : BitVec k), p = x ++ y :=
  ⟨_, _, BitVec.extractLsb'_append_extractLsb'.symm⟩

/-- Every pattern is four bytes. -/
theorem exists_bytes (p : BitVec 32) : ∃ a b c d : Byte, p = a ++ b ++ c ++ d := by
  obtain ⟨abc, d, rfl⟩ := exists_append (w := 24) (k := 8) p
  obtain ⟨ab, c, rfl⟩ := exists_append (w := 16) (k := 8) abc
  obtain ⟨a, b, rfl⟩ := exists_append (w := 8) (k := 8) ab
  exact ⟨a, b, c, d, rfl⟩

/-! ### The byte order -/

/-- Under `MSB_FIRST` the pattern stands on the wire as it is (R86). -/
@[simp] theorem ordBytes_msbFirst (p : BitVec 32) : ordBytes .msbFirst p = p := rfl

/-- Under `LSB_FIRST` the four bytes of the pattern stand in reverse (R86). -/
theorem ordBytes_lsbFirst_append (a b c d : Byte) : ordBytes .lsbFirst (a ++ b ++ c ++ d) = d ++ c ++ b ++ a := by
  have hskip {w : Nat} (x : BitVec w) (y : Byte) (i : Nat) : (x ++ y).extractLsb' (i + 8) 8 = x.extractLsb' i 8 :=
    BitVec.extractLsb'_append_eq_of_le (Nat.le_add_left ..)
  have hd : (a ++ b ++ c ++ d).extractLsb' 0 8 = d := BitVec.extractLsb'_append_eq_right
  have hc : (a ++ b ++ c ++ d).extractLsb' 8 8 = c := (hskip _ d 0).trans BitVec.extractLsb'_append_eq_right
  have hb : (a ++ b ++ c ++ d).extractLsb' 16 8 = b :=
    (hskip _ d 8).trans ((hskip _ c 0).trans BitVec.extractLsb'_append_eq_right)
  have ha : (a ++ b ++ c ++ d).extractLsb' 24 8 = a :=
    (hskip _ d 16).trans ((hskip _ c 8).trans BitVec.extractLsb'_append_eq_left)
  rw [ordBytes, ha, hb, hc, hd]

/-- `ORD` is its own inverse under either order (R86). -/
@[simp] theorem ordBytes_ordBytes (o : FloatOrder) (v : BitVec 32) : ordBytes o (ordBytes o v) = v := by
  cases o with
  | msbFirst => rfl
  | lsbFirst =>
    obtain ⟨a, b, c, d, rfl⟩ := exists_bytes v
    rw [ordBytes_lsbFirst_append, ordBytes_lsbFirst_append]

/-! ### The operations -/

theorem exec_encF32 (v : BitVec 32) (s : State) :
    exec (.encF32 v) s = .next (s.succeed (.str (hex8 (ordBytes s.cfg.floatOrder v)))) := rfl

theorem exec_decF32_of_error {x : Str} {e : DigitsFault} (h : digits32 x = .error e) (s : State) :
    exec (.decF32 x) s = .next (s.raise (decodeFailure e)) := by
  rw [exec, execDecF32, h, Except.map, finishDecode]

theorem exec_decF32_of_ok {x : Str} {p : BitVec 32} (h : digits32 x = .ok p) (s : State) :
    exec (.decF32 x) s = .next (s.succeed (.u32 (ordBytes s.cfg.floatOrder p))) := by
  rw [exec, execDecF32, h, Except.map, finishDecode]

/-- Settles O12: the digits byte by byte, after `ORD` has put the bytes in order. -/
theorem floatEncoderRendersOrderedBytes : Obligations.FloatEncoderRendersOrderedBytes := by
  intro b3 b2 b1 b0 s
  refine ⟨fun horder => ?_, fun horder => ?_⟩ <;> rw [exec_encF32, horder]
  · rw [ordBytes_msbFirst, hex8_append, State.succeed_eq]
  · rw [ordBytes_lsbFirst_append, hex8_append, State.succeed_eq]

/-- Settles O16: the cases of the operand's check; an accepted string is the digits of the four bytes of what was read. -/
theorem decF32ReadsOrderedBytes : Obligations.DecF32ReadsOrderedBytes := by
  intro x s
  rcases digits32_cases x with ⟨hlen, e⟩ | ⟨hlen, hhex, e⟩ | ⟨hlen, hhex, v, -, e⟩
  · exact ⟨fun _ => exec_decF32_of_error e s, fun h => absurd h hlen, fun h => absurd h hlen⟩
  · exact ⟨fun h => absurd hlen h, fun _ _ => exec_decF32_of_error e s,
      fun _ hall => absurd (List.all_eq_true.2 hall) (by simp [hhex])⟩
  · refine ⟨fun h => absurd hlen h, fun _ ⟨c, hc, hbad⟩ => absurd (List.all_eq_true.1 hhex c hc) (by simp [hbad]),
      fun _ _ => ?_⟩
    obtain ⟨a, b, c, d, hv⟩ := exists_bytes (BitVec.ofNat 32 v)
    rw [hv] at e
    refine ⟨a, b, c, d, (hex8_of_digits32 e).symm.trans (hex8_append a b c d), fun horder => ?_, fun horder => ?_⟩
    · rw [exec_decF32_of_ok e, horder, ordBytes_msbFirst, State.succeed_eq]
    · rw [exec_decF32_of_ok e, horder, ordBytes_lsbFirst_append, State.succeed_eq]

/-! ### The round trips -/

/-- `DEC_F32` of what `ENC_F32` answers gives back the pattern (R90). -/
theorem exec_encF32_decF32 (v : BitVec 32) (s : State) :
    andThen (exec (.encF32 v) s) (fun u => exec (.decF32 (valueText u)) u) =
      .next ((s.succeed (.str (hex8 (ordBytes s.cfg.floatOrder v)))).succeed (.u32 v)) := by
  rw [exec_encF32, andThen_next, valueText_succeed_str, exec_decF32_of_ok (digits32_hex8 _), State.succeed_cfg,
    ordBytes_ordBytes]

/-- `DEC_F32` ends `OK` only on a string its check accepts, and answers the ordered pattern (R89). -/
theorem exec_decF32_result_ok {x : Str} {s t : State} (h : exec (.decF32 x) s = .next t) (hok : t.result = .ok) :
    ∃ p, digits32 x = .ok p ∧ t = s.succeed (.u32 (ordBytes s.cfg.floatOrder p)) := by
  cases e : digits32 x with
  | ok p =>
    cases (exec_decF32_of_ok e s).symm.trans h
    exact ⟨p, rfl, rfl⟩
  | error f =>
    cases (exec_decF32_of_error e s).symm.trans h
    cases f <;> cases hok

/-- Settles O18: `exec_encF32_decF32`; a string accepted is the digits of what was read, which a second `ORD` restores. -/
theorem floatRoundTrips : Obligations.FloatRoundTrips := by
  refine ⟨fun v s => ⟨_, exec_encF32_decF32 v s, State.readValue_succeed_u32 ..⟩, fun x s t h hok => ?_, ordBytes_ordBytes⟩
  obtain ⟨p, hx, rfl⟩ := exec_decF32_result_ok h hok
  refine ⟨_, _, State.readValue_succeed_u32 .., exec_encF32 .., ?_⟩
  rw [State.readValue_succeed_str, State.succeed_cfg, ordBytes_ordBytes, hex8_of_digits32 hx]

end Sys2Proof.Machine

/-! PROOFS. The Message Framer (43_framer.md): the operand checks and the three forms of a built request; the parser's steps in
their order, what it requires of a string before the checksum is compared, and how it reads a frame and an altered one. -/

namespace Sys2Proof.Machine

/-! ### The operand checks -/

theorem tokenLegal_iff {c : Config} {op : Str} :
    tokenLegal c op = true ↔ c.opTokenMin ≤ op.length ∧ op.length ≤ c.opTokenMax ∧ ∀ b ∈ op, isTok b = true := by
  simp [tokenLegal, tokenOk, and_assoc]

theorem tokenLegal_eq_false_iff {c : Config} {op : Str} :
    tokenLegal c op = false ↔ op.length < c.opTokenMin ∨ c.opTokenMax < op.length ∨ ∃ b ∈ op, isTok b = false := by
  rw [← Bool.not_eq_true, tokenLegal_iff, not_and_or, not_and_or, not_le, not_le]
  simp

theorem valueOk_iff {val : Str} : valueOk val = true ↔ val.length = 8 ∧ ∀ b ∈ val, isHexU b = true := by
  simp [valueOk]

theorem valueOk_eq_false_iff {val : Str} : valueOk val = false ↔ val.length ≠ 8 ∨ ∃ b ∈ val, isHexU b = false := by
  rw [← Bool.not_eq_true, valueOk_iff, not_and_or]
  simp

/-! ### Building -/

section
variable {op tail val body : Str} {id : BitVec 16} {inst : BitVec 8} {s t : State} {i : Instr} {n : Nat}

theorem exec_buildBare (hop : tokenLegal s.cfg op = true) :
    exec (.buildBare op) s = .next (buildRequest op bareTail s) := if_pos hop

theorem exec_buildRead (hop : tokenLegal s.cfg op = true) :
    exec (.buildRead op id inst) s = .next (buildRequest op (readTail id inst) s) := if_pos hop

theorem exec_buildWrite (hop : tokenLegal s.cfg op = true) (hval : valueOk val = true) :
    exec (.buildWrite op id inst val) s = .next (buildRequest op (writeTail id inst val) s) :=
  (if_pos hop).trans (if_pos hval)

theorem exec_buildWrite_of_badValue (hop : tokenLegal s.cfg op = true) (hval : valueOk val = false) :
    exec (.buildWrite op id inst val) s = .next (s.raise (.refused .badValue)) :=
  (if_pos hop).trans (if_neg (Bool.eq_false_iff.1 hval))

/-- The state after a request has been built, with its body as the rules of the three forms write it (R98 to R101). -/
theorem buildRequest_eq_of_body (h : requestBody s.addr s.seq op tail = body) :
    buildRequest op tail s =
      { s with crc := checksum body, tx := body ++ hex4 (checksum body), seq := s.seq + 1,
               result := .ok, value := .str (body ++ hex4 (checksum body)) } := by
  subst h
  rfl

/-- `BuildForm i op tail n`: `i` is the `BUILD_*` whose request has the token `op`, the tail `tail` and `n` characters beside
the token (R99 to R101). -/
inductive BuildForm : Instr → Str → Str → Nat → Prop
  | bare (op : Str) : BuildForm (.buildBare op) op bareTail 11
  | read (op : Str) (id : BitVec 16) (inst : BitVec 8) : BuildForm (.buildRead op id inst) op (readTail id inst) 17
  | write (op : Str) (id : BitVec 16) (inst : BitVec 8) (val : Str) :
      BuildForm (.buildWrite op id inst val) op (writeTail id inst val) 25

/-- A `BUILD_*` that ends `OK` has had legal operands and has built the request of its form. -/
theorem BuildForm.of_ok (hi : BuildForm i op tail n) (h : exec i s = .next t) (hok : t.result = .ok) :
    tokenLegal s.cfg op = true ∧ IsTail tail ∧ 11 + tail.length = n ∧ t = buildRequest op tail s := by
  cases hi with
  | bare =>
    rcases execBuildBare_cases op s with ⟨hop, e⟩ | ⟨-, e⟩ <;> cases e.symm.trans h
    · exact ⟨hop, isTail_bareTail, rfl, rfl⟩
    · cases hok
  | read _ id inst =>
    rcases execBuildRead_cases op id inst s with ⟨hop, e⟩ | ⟨-, e⟩ <;> cases e.symm.trans h
    · exact ⟨hop, isTail_readTail id inst, by simp, rfl⟩
    · cases hok
  | write _ id inst val =>
    rcases execBuildWrite_cases op id inst val s with ⟨hop, hval, e⟩ | ⟨-, -, e⟩ | ⟨-, e⟩ <;> cases e.symm.trans h
    · exact ⟨hop, isTail_writeTail id inst hval, by simp [(valueOk_iff.1 hval).1], rfl⟩
    · cases hok
    · cases hok

end

/-- A request starts with its preamble and the digits of its address (R48). -/
theorem take_three_request (a : BitVec 8) (q : BitVec 16) (op tail : Str) :
    (request a q op tail).take 3 = 0x23#8 :: hex2 a := by
  simp [request, requestBody, withChecksum, Config.reqPreamble]

/-- Settles O19: of the registers' writers only `SET_ADDR` writes `ADDR`, and a request carries it. -/
theorem setAddrFixesRequestAddress : Obligations.SetAddrFixesRequestAddress := by
  refine ⟨fun _ _ => rfl, fun i s t hi h => ?_, fun i s t hi h hok => ?_⟩
  · obtain ⟨-, -, haddr, -⟩ := registersHaveTheirWriters i s t h
    exact haddr.resolve_right (hi _)
  · obtain ⟨op, tail, rfl⟩ := eq_buildRequest_of_ok (buildLegal_isSome.2 hi) h hok
    exact take_three_request ..

/-- Settles O20: each form has its body, and `buildRequest` is the same for all three. -/
theorem buildAssemblesRequest : Obligations.BuildAssemblesRequest := by
  intro op id inst val s hmin hmax htok
  have hop : tokenLegal s.cfg op = true := tokenLegal_iff.2 ⟨hmin, hmax, htok⟩
  refine ⟨?_, ?_, fun hlen hhex => ?_⟩
  · rw [exec_buildBare hop, buildRequest_eq_of_body]
    simp [requestBody, bareTail, Config.reqPreamble]
  · rw [exec_buildRead hop, buildRequest_eq_of_body]
    simp [requestBody, readTail, Config.reqPreamble]
  · rw [exec_buildWrite hop (valueOk_iff.2 ⟨hlen, hhex⟩), buildRequest_eq_of_body]
    simp [requestBody, writeTail, Config.reqPreamble]

/-- Settles O21: the checks of R96 fail where the conditions on their operands do. -/
theorem illegalBuildIsRefused : Obligations.IllegalBuildIsRefused := by
  refine ⟨fun op id inst val s h => ?_, fun op id inst val s hmin hmax htok h => ?_⟩
  · have hop : ¬ tokenLegal s.cfg op = true := Bool.eq_false_iff.1 (tokenLegal_eq_false_iff.2 h)
    exact ⟨if_neg hop, if_neg hop, if_neg hop⟩
  · exact exec_buildWrite_of_badValue (tokenLegal_iff.2 ⟨hmin, hmax, htok⟩) (valueOk_eq_false_iff.2 h)

/-- Settles O22: header, token, tail and checksum field are counted, and a legal token is within the bounds. -/
theorem builtRequestLength : Obligations.BuiltRequestLength := by
  intro i op n s t hi h hok
  obtain ⟨tail, hform⟩ : ∃ tail, BuildForm i op tail n := by
    rcases hi with ⟨rfl, rfl⟩ | ⟨id, inst, rfl, rfl⟩ | ⟨id, inst, val, rfl, rfl⟩
    · exact ⟨_, .bare op⟩
    · exact ⟨_, .read op id inst⟩
    · exact ⟨_, .write op id inst val⟩
  obtain ⟨hop, ⟨-, htail⟩, hn, rfl⟩ := hform.of_ok h hok
  obtain ⟨hmin, hmax, -⟩ := tokenLegal_iff.1 hop
  have hlen : (buildRequest op tail s).tx.length = 11 + op.length + tail.length := request_length ..
  omega

/-! ### Where the parser's first two steps lead -/

section
variable {pre : Option Byte} {rx : Str} {r : Parsed} {s t : State}

theorem exec_parseRsp (h : parseResponse s.cfg.rspPreamble s.rx = r) : exec .parseRsp s = .next (finishParse r s) := by
  subst h
  rfl

theorem parseResponse_of_short (h : rx.length < 11) : parseResponse pre rx = .framing .short := if_pos h

/-- Up to the first of its occurrences a character is dropped with all that stands before it. -/
theorem dropWhile_bne_of_first {x : Byte} {k : Nat} {l : Str} (hk : l[k]? = some x)
    (hfirst : ∀ j, j < k → l[j]? ≠ some x) : l.dropWhile (· != x) = x :: l.drop (k + 1) := by
  induction l generalizing k with
  | nil => cases hk
  | cons y l ih =>
    cases k with
    | zero => cases hk; simp
    | succ k =>
      have hy : y ≠ x := by simpa using hfirst 0 (Nat.succ_pos k)
      simpa [hy] using ih (by simpa using hk) fun j hj => by simpa using hfirst (j + 1) (Nat.succ_lt_succ hj)

/-- With a marker found, step 2 goes by what follows it (R104). -/
theorem parseResponse_of_dropWhile {m : Byte} {after : Str} (hlen : 11 ≤ rx.length)
    (h : rx.dropWhile (· != chPlus) = m :: after) : parseResponse pre rx = parseMarker after := by
  have hlong : ¬ rx.length < Config.hdrLen + Config.cksLen := Nat.not_lt.2 hlen
  rw [parseResponse, if_neg hlong, h]

/-- The marker found is the first, by its index (R104). -/
theorem parseResponse_of_first_marker {k : Nat} (hlen : 11 ≤ rx.length) (hk : rx[k]? = some chPlus)
    (hfirst : ∀ j, j < k → rx[j]? ≠ some chPlus) : parseResponse pre rx = parseMarker (rx.drop (k + 1)) :=
  parseResponse_of_dropWhile hlen (dropWhile_bne_of_first hk hfirst)

theorem all_bne_iff {x : Byte} {l : Str} : l.all (· != x) = true ↔ x ∉ l := by
  simp only [List.all_eq_true, bne_iff_ne]
  exact List.forall_mem_ne'

/-- A string without a marker is passed on to step 3 (R104). -/
theorem parseResponse_of_no_marker (hlen : 11 ≤ rx.length) (h : chPlus ∉ rx) : parseResponse pre rx = parseData pre rx := by
  have hlong : ¬ rx.length < Config.hdrLen + Config.cksLen := Nat.not_lt.2 hlen
  have hdrop : rx.dropWhile (· != chPlus) = [] :=
    List.dropWhile_eq_nil_iff.2 (List.all_eq_true.1 (all_bne_iff.2 h))
  rw [parseResponse, if_neg hlong, hdrop]

/-- With a marker in the string it is step 2 that answers (R104). -/
theorem parseResponse_of_mem_marker (hlen : 11 ≤ rx.length) (h : chPlus ∈ rx) :
    ∃ after, parseResponse pre rx = parseMarker after := by
  cases hdrop : rx.dropWhile (· != chPlus) with
  | nil => exact absurd h (all_bne_iff.1 (List.all_eq_true.2 (List.dropWhile_eq_nil_iff.1 hdrop)))
  | cons m after => exact ⟨after, parseResponse_of_dropWhile hlen hdrop⟩

theorem isDecimal_ofNat : ∀ d < 10, isDecimal (BitVec.ofNat 8 (0x30 + d)) = true ∧
    (BitVec.ofNat 8 (0x30 + d) - ch0).setWidth 4 = BitVec.ofNat 4 d := by
  decide

theorem exists_ofNat_of_isDecimal : ∀ {b : Byte}, isDecimal b = true → ∃ d < 10, b = BitVec.ofNat 8 (0x30 + d) := by
  decide

/-- Step 2 on a code: the marker is followed by `0` and a decimal digit (R105). -/
theorem parseMarker_of_digit {d : Nat} (hd : d < 10) (h0 : rx[0]? = some ch0)
    (h1 : rx[1]? = some (BitVec.ofNat 8 (0x30 + d))) : parseMarker rx = .device (BitVec.ofNat 4 d) := by
  obtain ⟨hdec, hval⟩ := isDecimal_ofNat d hd
  match rx, h0, h1 with
  | z :: b :: rest, h0, h1 =>
    cases h0
    cases h1
    simp [parseMarker, hdec, hval]

/-- Step 2 on anything else, the end of the string included (R105). -/
theorem parseMarker_of_no_digit
    (h : rx[0]? ≠ some ch0 ∨ ∀ d < 10, rx[1]? ≠ some (BitVec.ofNat 8 (0x30 + d))) :
    parseMarker rx = .framing .badErrorFrame := by
  rcases parseMarker_cases rx with ⟨z, b, rest, rfl, rfl, hb, -⟩ | e
  · obtain ⟨d, hd, rfl⟩ := exists_ofNat_of_isDecimal hb
    rcases h with h | h
    · exact absurd rfl h
    · exact absurd rfl (h d hd)
  · exact e

/-! ### Steps 3 to 5 -/

theorem preambleOk_iff : preambleOk pre rx = true ↔ ∀ x, pre = some x → rx[0]? = some x := by
  cases pre <;> simp [preambleOk, List.head?_eq_getElem?]

/-- The header digits are the characters at the indices 1 to 6 (R37). -/
theorem headerDigits_isHexU_iff :
    (headerDigits rx).all isHexU = true ↔ ∀ k c, 1 ≤ k ∧ k ≤ 6 → rx[k]? = some c → isHexU c = true := by
  simp only [List.all_eq_true, List.mem_iff_getElem?, headerDigits, Config.hdrLen, List.getElem?_take, List.getElem?_drop]
  refine ⟨fun h k c hk hc => h c ⟨k - 1, ?_⟩, fun h c ⟨j, hj⟩ => ?_⟩
  · rw [if_pos (by omega), Nat.add_sub_cancel' hk.1, hc]
  · split at hj
    · exact h _ c (by omega) hj
    · cases hj

/-- The checksum field is the characters from the index `n - 4` on (R37). -/
theorem checksumField_isHexU_iff :
    (checksumField rx).all isHexU = true ↔ ∀ k c, rx.length - 4 ≤ k → rx[k]? = some c → isHexU c = true := by
  simp only [List.all_eq_true, List.mem_iff_getElem?, checksumField, Config.cksLen, List.getElem?_drop]
  refine ⟨fun h k c hk hc => h c ⟨k - (rx.length - 4), ?_⟩, fun h c ⟨j, hj⟩ => h _ c (Nat.le_add_right ..) hj⟩
  rw [Nat.add_sub_cancel' hk, hc]

theorem checksumField_length (hlen : 11 ≤ rx.length) : (checksumField rx).length = 4 := by
  simp only [checksumField, Config.cksLen, List.length_drop]
  omega

theorem hex4_injective : Function.Injective hex4 := fun v w h =>
  Option.some.inj ((unhexField_hex4 v).symm.trans ((congrArg (unhexField 4) h).trans (unhexField_hex4 w)))

theorem parseData_of_badPreamble (h : preambleOk pre rx = false) : parseData pre rx = .framing .badPreamble := by
  simp [parseData, h]

/-- Step 3 finds a character outside `HEXU` in the header digits or in the checksum field (R106). -/
theorem parseData_of_badAlphabet (hpre : preambleOk pre rx = true)
    (h : (headerDigits rx).all isHexU = false ∨ (checksumField rx).all isHexU = false) :
    parseData pre rx = .framing .badAlphabet := by
  rw [parseData, if_pos hpre]
  split
  · next hhdr =>
    cases hk : decU16 (checksumField rx) with
    | none => rfl
    | some k =>
      have hsum : (checksumField rx).all isHexU = true := hex4_of_unhexField hk ▸ hex4_all_isHexU k
      simp [hhdr, hsum] at h
  · rfl

/-- Steps 4 and 5: the checksum field is compared with the digits of the recomputed checksum (R107, R108). -/
theorem parseData_of_fields (hlen : 11 ≤ rx.length) (hpre : preambleOk pre rx = true)
    (hhdr : (headerDigits rx).all isHexU = true) (hsum : (checksumField rx).all isHexU = true) :
    parseData pre rx =
      if checksumField rx = hex4 (checksum (beforeChecksum rx)) then
        .payload (checksum (beforeChecksum rx)) ((beforeChecksum rx).drop Config.hdrLen)
      else .mismatch (checksum (beforeChecksum rx)) := by
  obtain ⟨k, hk⟩ : ∃ k, decU16 (checksumField rx) = some k := exists_unhexField (checksumField_length hlen) hsum
  have hfield : checksumField rx = hex4 (checksum (beforeChecksum rx)) ↔ checksum (beforeChecksum rx) = k := by
    rw [← hex4_of_unhexField hk, hex4_injective.eq_iff, eq_comm]
  simp only [parseData, hpre, hhdr, hk, hfield, if_true]

/-- A string passes steps 1 to 3 (R103 to R106). -/
structure Framed (pre : Option Byte) (rx : Str) : Prop where
  long : 11 ≤ rx.length
  no_marker : chPlus ∉ rx
  preamble : ∀ x, pre = some x → rx[0]? = some x
  alphabet : ∀ k c, (1 ≤ k ∧ k ≤ 6) ∨ rx.length - 4 ≤ k → rx[k]? = some c → isHexU c = true

/-- On a string that passes steps 1 to 3 the checksum decides. -/
theorem Framed.parseResponse_eq (h : Framed pre rx) :
    parseResponse pre rx =
      if checksumField rx = hex4 (checksum (beforeChecksum rx)) then
        .payload (checksum (beforeChecksum rx)) ((beforeChecksum rx).drop Config.hdrLen)
      else .mismatch (checksum (beforeChecksum rx)) := by
  rw [parseResponse_of_no_marker h.long h.no_marker]
  exact parseData_of_fields h.long (preambleOk_iff.2 h.preamble)
    (headerDigits_isHexU_iff.2 fun k c hk => h.alphabet k c (.inl hk))
    (checksumField_isHexU_iff.2 fun k c hk => h.alphabet k c (.inr hk))

/-- A payload is answered for no other string. -/
theorem framed_of_payload {crc : CrcWord} {p : Str} (h : parseResponse pre rx = .payload crc p) : Framed pre rx := by
  have hlen : 11 ≤ rx.length := by
    by_contra hshort
    cases (parseResponse_of_short (not_le.1 hshort)).symm.trans h
  have hno : chPlus ∉ rx := by
    intro hmem
    obtain ⟨after, e⟩ := parseResponse_of_mem_marker (pre := pre) hlen hmem
    rcases parseMarker_cases after with ⟨z, d, rest, -, -, -, em⟩ | em
    · cases (e.trans em).symm.trans h
    · cases (e.trans em).symm.trans h
  have hdata : parseData pre rx = .payload crc p := (parseResponse_of_no_marker hlen hno).symm.trans h
  have hpre : preambleOk pre rx = true := by
    by_contra hbad
    cases (parseData_of_badPreamble (Bool.eq_false_iff.2 hbad)).symm.trans hdata
  have halpha : (headerDigits rx).all isHexU = true ∧ (checksumField rx).all isHexU = true := by
    by_contra hbad
    rw [not_and_or, Bool.not_eq_true, Bool.not_eq_true] at hbad
    cases (parseData_of_badAlphabet hpre hbad).symm.trans hdata
  obtain ⟨hhdr, hsum⟩ := halpha
  refine ⟨hlen, hno, preambleOk_iff.1 hpre, fun k c hk hc => ?_⟩
  rcases hk with hk | hk
  · exact headerDigits_isHexU_iff.1 hhdr k c hk hc
  · exact checksumField_isHexU_iff.1 hsum k c hk hc

theorem finishParse_result_ok (h : (finishParse r s).result = .ok) : ∃ crc p, r = .payload crc p := by
  cases r with
  | payload crc p => exact ⟨crc, p, rfl⟩
  | _ => cases h

/-- `PARSE_RSP` accepts only a string that passes steps 1 to 3 and whose checksum field is right (R107). -/
theorem framed_of_result_ok (h : exec .parseRsp s = .next t) (hok : t.result = .ok) :
    Framed s.cfg.rspPreamble s.rx ∧ checksumField s.rx = hex4 (checksum (beforeChecksum s.rx)) := by
  cases h
  obtain ⟨crc, p, e⟩ := finishParse_result_ok hok
  have hframed := framed_of_payload e
  refine ⟨hframed, ?_⟩
  by_contra hne
  rw [hframed.parseResponse_eq, if_neg hne] at e
  cases e

/-- A data frame without a marker answers its payload, whatever its header digits are (R109, R110). -/
theorem parseResponse_dataFrame {x : Byte} {p : Str} (a : BitVec 8) (q : BitVec 16) (hx : x ≠ chPlus) (hp : chPlus ∉ p)
    (hpre : pre = none ∨ pre = some x) :
    parseResponse pre (dataFrame x a q p) = .payload (checksum (x :: (hex2 a ++ hex4 q ++ p))) p := by
  have hbefore : beforeChecksum (dataFrame x a q p) = x :: (hex2 a ++ hex4 q ++ p) := beforeChecksum_withChecksum _
  have hfield : checksumField (dataFrame x a q p) = hex4 (checksum (beforeChecksum (dataFrame x a q p))) := by
    simp [dataFrame]
  have hno : chPlus ∉ dataFrame x a q p :=
    all_bne_iff.1 (dataFrame_no_marker.2 ⟨hx, all_bne_iff.2 hp⟩)
  have hpreamble : preambleOk pre (dataFrame x a q p) = true := by
    rcases hpre with rfl | rfl <;> simp [preambleOk, dataFrame, withChecksum]
  have hhdr : (headerDigits (dataFrame x a q p)).all isHexU = true := by
    rw [headerDigits_dataFrame, List.all_append, hex2_all_isHexU, hex4_all_isHexU, Bool.and_self]
  have hsum : (checksumField (dataFrame x a q p)).all isHexU = true := hfield ▸ hex4_all_isHexU _
  rw [parseResponse_of_no_marker (by simp) hno, parseData_of_fields (by simp) hpreamble hhdr hsum, if_pos hfield,
    payload_dataFrame, hbefore]

end

/-- Settles O26: the length is tested before anything else. -/
theorem parseShortIsFramingError : Obligations.ParseShortIsFramingError :=
  fun _ h => exec_parseRsp (parseResponse_of_short h)

/-- Settles O27: step 2 on what follows the first marker. -/
theorem parseMarkerDecides : Obligations.ParseMarkerDecides := by
  intro s k hlen hk hfirst
  have hstep := parseResponse_of_first_marker (pre := s.cfg.rspPreamble) hlen hk hfirst
  have hnext (j : Nat) : (s.rx.drop (k + 1))[j]? = s.rx[k + 1 + j]? := List.getElem?_drop
  refine ⟨fun d hd h0 h1 => ?_, fun h => ⟨?_, rfl⟩⟩
  · exact exec_parseRsp (hstep.trans (parseMarker_of_digit hd ((hnext 0).trans h0) ((hnext 1).trans h1)))
  · exact exec_parseRsp (hstep.trans (parseMarker_of_no_digit (by rw [hnext, hnext]; exact h)))

/-- Settles O28: step 3, the preamble before the alphabet. -/
theorem parseChecksFixedFields : Obligations.ParseChecksFixedFields := by
  intro s hlen hno
  have hstep := parseResponse_of_no_marker (pre := s.cfg.rspPreamble) hlen hno
  refine ⟨fun x hset hne => ?_, fun hpre ⟨k, c, hk, hc, hbad⟩ => ?_⟩
  · have hpre : preambleOk s.cfg.rspPreamble s.rx = false :=
      Bool.eq_false_iff.2 fun h => hne (preambleOk_iff.1 h x hset)
    exact exec_parseRsp (hstep.trans (parseData_of_badPreamble hpre))
  · rw [← Bool.not_eq_true] at hbad
    refine exec_parseRsp (hstep.trans (parseData_of_badAlphabet (preambleOk_iff.2 hpre) ?_))
    rcases hk with hk | hk
    · exact .inl (Bool.eq_false_iff.2 fun h => hbad (headerDigits_isHexU_iff.1 h k c hk hc))
    · exact .inr (Bool.eq_false_iff.2 fun h => hbad (checksumField_isHexU_iff.1 h k c hk hc))

/-- Settles O29: the hypotheses are `Framed`, and the checksum decides. -/
theorem parseValidatesChecksum : Obligations.ParseValidatesChecksum := by
  intro s hlen hno hpre halpha
  have hframed : Framed s.cfg.rspPreamble s.rx := ⟨hlen, hno, hpre, halpha⟩
  have hpayload : (beforeChecksum s.rx).drop Config.hdrLen = (s.rx.drop 7).take (s.rx.length - 11) := by
    rw [beforeChecksum, List.drop_take, Nat.sub_sub]
    rfl
  rw [exec_parseRsp hframed.parseResponse_eq, hpayload]
  split
  · next h => exact (if_pos h).symm
  · next h => exact (if_neg h).symm

/-- Settles O30: the parser reads no header digit but for its alphabet. -/
theorem anyEchoIsAccepted : Obligations.AnyEchoIsAccepted := by
  intro x a q p s hx hp hpre hrx
  exact exec_parseRsp (hrx ▸ parseResponse_dataFrame a q hx hp hpre)

/-- A token and a tail hold no marker (R48, R104). -/
theorem marker_not_mem_append {c : Config} {op tail : Str} (hop : tokenLegal c op = true) (ht : IsTail tail) :
    chPlus ∉ op ++ tail := by
  rw [List.mem_append, not_or]
  exact ⟨all_bne_iff.1 (token_no_marker hop), all_bne_iff.1 (hexU_no_marker ht.1)⟩

/-- Settles O31: a built request is the data frame of its token and tail (R112). -/
theorem builtRequestLoopsBack : Obligations.BuiltRequestLoopsBack := by
  intro i op tail s t hi hpre h hok
  obtain ⟨n, hform⟩ : ∃ n, BuildForm i op tail n := by
    rcases hi with ⟨rfl, rfl⟩ | ⟨id, inst, rfl, rfl⟩ | ⟨id, inst, val, rfl, rfl⟩
    · exact ⟨_, .bare op⟩
    · exact ⟨_, .read op id inst⟩
    · exact ⟨_, .write op id inst val⟩
  obtain ⟨hop, ht, -, rfl⟩ := hform.of_ok h hok
  have hparse := parseResponse_dataFrame s.addr s.seq (by decide : Config.reqPreamble ≠ chPlus)
    (marker_not_mem_append hop ht) hpre
  rw [← request_eq_dataFrame] at hparse
  refine (exec_parseRsp hparse).trans ?_
  have hbody : Config.reqPreamble :: (hex2 s.addr ++ hex4 s.seq ++ (op ++ tail)) = requestBody s.addr s.seq op tail := by
    simp [requestBody]
  rw [hbody]
  rfl

/-! ### An altered character -/

section
variable {pre : Option Byte} {rx : Str} {k : Nat} {b c : Byte}

/-- A character altered within the limits of steps 1 to 3 leaves the string within them. -/
theorem Framed.set (h : Framed pre rx) (hb : b ≠ chPlus) (hpre : k = 0 → pre = none)
    (hhex : (1 ≤ k ∧ k ≤ 6) ∨ rx.length - 4 ≤ k → isHexU b = true) : Framed pre (rx.set k b) where
  long := by simpa using h.long
  no_marker hmem := (List.mem_or_eq_of_mem_set hmem).elim h.no_marker (hb ·.symm)
  preamble x hx := by
    have hk : k ≠ 0 := fun hk => by simp [hpre hk] at hx
    rw [List.getElem?_set_ne hk]
    exact h.preamble x hx
  alphabet j d hj hd := by
    rw [List.length_set] at hj
    by_cases hjk : k = j
    · subst hjk
      rw [List.getElem?_set_self'] at hd
      obtain ⟨_, -, rfl⟩ := Option.map_eq_some_iff.1 hd
      exact hhex hj
    · rw [List.getElem?_set_ne hjk] at hd
      exact h.alphabet j d hj hd

/-- One altered byte alters the checksum of a string (R69). -/
theorem checksum_set_ne (hc : rx[k]? = some c) (hne : b ≠ c) : checksum (rx.set k b) ≠ checksum rx := by
  obtain ⟨hk, rfl⟩ := List.getElem?_eq_some_iff.1 hc
  have hsplit : rx = rx.take k ++ rx[k] :: rx.drop (k + 1) := by simp
  rw [List.set_eq_take_append_cons_drop, if_pos hk]
  conv_rhs => rw [hsplit]
  exact alteredByteAltersChecksum _ _ _ _ hne

/-- Of checksum field and body one alone is altered, so they no longer agree (R107). -/
theorem checksumField_set_ne (hfield : checksumField rx = hex4 (checksum (beforeChecksum rx))) (hc : rx[k]? = some c)
    (hne : b ≠ c) : checksumField (rx.set k b) ≠ hex4 (checksum (beforeChecksum (rx.set k b))) := by
  intro hset
  by_cases hk : k < rx.length - Config.cksLen
  · have hbody : beforeChecksum (rx.set k b) = (beforeChecksum rx).set k b := by
      rw [beforeChecksum, List.length_set, List.take_set, beforeChecksum]
    have hsame : checksumField (rx.set k b) = checksumField rx := by
      rw [checksumField, List.length_set, List.drop_set_of_lt hk, checksumField]
    have hc' : (beforeChecksum rx)[k]? = some c := by rw [beforeChecksum, List.getElem?_take_of_lt hk, hc]
    rw [hsame, hfield, hbody] at hset
    exact checksum_set_ne hc' hne (hex4_injective hset).symm
  · have hbody : beforeChecksum (rx.set k b) = beforeChecksum rx := by
      rw [beforeChecksum, List.length_set, List.take_set_of_le (Nat.le_of_not_lt hk), beforeChecksum]
    have hsame : rx.set k b = rx := by
      calc rx.set k b = beforeChecksum (rx.set k b) ++ checksumField (rx.set k b) := (List.take_append_drop ..).symm
        _ = beforeChecksum rx ++ checksumField rx := by rw [hset, hbody, hfield]
        _ = rx := List.take_append_drop ..
    obtain ⟨hlt, rfl⟩ := List.getElem?_eq_some_iff.1 hc
    exact hne (Option.some.inj ((List.getElem?_set_self hlt).symm.trans ((congrArg (·[k]?) hsame).trans hc)))

end

/-- Settles O32: the altered string still passes steps 1 to 3, and its checksum field is no longer right. -/
theorem alteredCharacterIsDetected : Obligations.AlteredCharacterIsDetected := by
  intro s t k c b h hok hc hne hb hpre hhex
  obtain ⟨hframed, hfield⟩ := framed_of_result_ok h hok
  have hparse := (hframed.set hb hpre hhex).parseResponse_eq
  rw [if_neg (checksumField_set_ne hfield hc hne)] at hparse
  exact ⟨_, exec_parseRsp hparse, rfl⟩

end Sys2Proof.Machine

/-! PROOFS. The host at the boundary (45_session.md): a logical operation as its steps, with a timeout, with a data response,
and with whatever it ends `OK` on; the connect sequence; the two phases of a session; the host's duties. -/

namespace Sys2Proof.Machine

open Safety

/-! ### `DEC_STATUS` -/

/-- Any other code than the three known ones (R120). -/
theorem decStatus_of_unknown {v : BitVec 32} (h0 : v ≠ 0) (h1 : v ≠ 1) (h2 : v ≠ 2) :
    decStatus v = .error .unknownStatus :=
  (if_neg h0).trans ((if_neg h1).trans (if_neg h2))

/-- Settles O51: none of the three known codes has a signed reading below 0 or above 2. -/
theorem unknownStatusIsDecodeError : Obligations.UnknownStatusIsDecodeError := by
  refine ⟨rfl, rfl, rfl, fun v h => ?_⟩
  have hne (c : BitVec 32) (hlo : 0 ≤ c.toInt) (hhi : c.toInt ≤ 2) : v ≠ c := by
    rintro rfl
    omega
  exact decStatus_of_unknown (hne 0 (by decide) (by decide)) (hne 1 (by decide) (by decide))
    (hne 2 (by decide) (by decide))

/-- The number of an enumerated operation by its code (R120). -/
theorem int32Answer_enumerated (v : BitVec 32) :
    int32Answer true v =
      if v = 0 then .ok (.status .off) else if v = 1 then .ok (.status .unstable)
      else if v = 2 then .ok (.status .stable)
      else .error { result := .decodeError .unknownStatus, code := none } := by
  by_cases h0 : v = 0
  · subst h0; rfl
  by_cases h1 : v = 1
  · subst h1; rfl
  by_cases h2 : v = 2
  · subst h2; rfl
  simp only [int32Answer, decStatus_of_unknown h0 h1 h2, h0, h1, h2, if_true, if_false]

/-! ### The steps of a logical operation -/

/-- The operation token of a request (R117). -/
def LogicalRequest.token : LogicalRequest → Str
  | .bare op => op
  | .read op _ _ => op
  | .write op _ _ _ => op

section
variable {r : LogicalRequest} {kind : ValueKind} {reply : Option Str} {f : State → Host.Outcome State Fault Refusal}
  {s s1 t : State} {x : Byte} {p : Str}

/-- The value of a write is encoded as eight digits (R76, R87). -/
theorem encodeValue_eq (v : WriteValue) (s : State) :
    ∃ n, encodeValue v s = .next (s.succeed (.str (hex8 n))) := by
  cases v with
  | int32 v => exact ⟨_, exec_encI32 v s⟩
  | float32 v => exact ⟨_, exec_encF32 v s⟩

/-- A write is built from the digits its value is encoded as (R117). -/
theorem issueRequest_write (op : Str) (id : BitVec 16) (inst : BitVec 8) (v : WriteValue) (s : State) :
    ∃ n, issueRequest (.write op id inst v) s =
      exec (.buildWrite op id inst (hex8 n)) (s.succeed (.str (hex8 n))) := by
  obtain ⟨n, hn⟩ := encodeValue_eq v s
  refine ⟨n, ?_⟩
  rw [issueRequest, hn, andThen_next, valueText_succeed_str]

theorem valueOk_hex8 (n : BitVec 32) : valueOk (hex8 n) = true :=
  valueOk_iff.2 ⟨hex8_length n, List.all_eq_true.1 (hex8_all_isHexU n)⟩

/-- With a legal token the first two steps build a request, whatever is asked: the digits of a write's value pass R96. -/
theorem issueRequest_of_legal (h : tokenLegal s.cfg r.token = true) :
    ∃ tail, issueRequest r s = .next (buildRequest r.token tail s) := by
  cases r with
  | bare op => exact ⟨_, exec_buildBare h⟩
  | read op id inst => exact ⟨_, exec_buildRead h⟩
  | write op id inst v =>
    obtain ⟨n, hn⟩ := issueRequest_write op id inst v s
    exact ⟨_, hn.trans (exec_buildWrite h (valueOk_hex8 n))⟩

/-- Steps 1 and 2 end in a `BUILD_*`, on a block whose `SEQ` and `ADDR` are those of the start (R117). -/
theorem issueRequest_eq_exec (r : LogicalRequest) (s : State) :
    ∃ i u, issueRequest r s = exec i u ∧ (buildLegal u.cfg i).isSome = true ∧ u.seq = s.seq ∧ u.addr = s.addr := by
  cases r with
  | bare op => exact ⟨.buildBare op, s, rfl, rfl, rfl, rfl⟩
  | read op id inst => exact ⟨.buildRead op id inst, s, rfl, rfl, rfl, rfl⟩
  | write op id inst v =>
    obtain ⟨n, hn⟩ := issueRequest_write op id inst v s
    exact ⟨_, _, hn, rfl, rfl, rfl⟩

/-- A request that is issued has taken one sequence number (R98). -/
theorem issueRequest_ok (h : issueRequest r s = .next t) (hok : t.result = .ok) :
    t.seq = s.seq + 1 ∧ t.addr = s.addr := by
  obtain ⟨i, u, e, hi, hseq, haddr⟩ := issueRequest_eq_exec r s
  obtain ⟨op, tail, rfl⟩ := eq_buildRequest_of_ok hi (e.symm.trans h) hok
  rw [← hseq, ← haddr]
  exact ⟨rfl, rfl⟩

theorem ifOk_of_ok (h : s.result = .ok) : ifOk f s = f s := if_pos h

theorem ifOk_of_ne_ok (h : s.result ≠ .ok) : ifOk f s = .next s := if_neg h

/-- What goes on only after `OK` and ends `OK` has gone on. -/
theorem ifOk_eq_next_ok (h : ifOk f s = .next t) (hok : t.result = .ok) : s.result = .ok ∧ f s = .next t := by
  rcases ifOk_cases f s with ⟨hs, e⟩ | ⟨hs, e⟩ <;> rw [e] at h
  · exact ⟨hs, h⟩
  · cases h
    exact absurd hok hs

/-- Once the request is issued, what is left is to receive, parse and decode (R117 steps 4 to 6). -/
theorem runLogical_of_issued (h : issueRequest r s = .next s1) (hok : s1.result = .ok) :
    runLogical r kind reply s =
      andThen (deliver reply s1) (ifOk fun s2 => andThen (exec .parseRsp s2) (ifOk (decodePayload kind))) := by
  rw [runLogical, h, andThen_next, ifOk_of_ok hok]

/-- A timeout ends the operation (R122). -/
theorem runLogical_timeout (h : tokenLegal s.cfg r.token = true) :
    ∃ tail, runLogical r kind none s = .next (rxTimeout (buildRequest r.token tail s)) := by
  obtain ⟨tail, hissue⟩ := issueRequest_of_legal h
  refine ⟨tail, ?_⟩
  rw [runLogical_of_issued hissue rfl, deliver, andThen_next]
  exact ifOk_of_ne_ok nofun

/-- A data response brings its payload to the decoder, whatever it echoes (R117, R153). -/
theorem runLogical_dataFrame (a : BitVec 8) (q : BitVec 16) (h : tokenLegal s.cfg r.token = true)
    (hmax : s.cfg.rxMax = none) (hx : x ≠ chPlus) (hp : chPlus ∉ p)
    (hpre : s.cfg.rspPreamble = none ∨ s.cfg.rspPreamble = some x) :
    ∃ u : State, runLogical r kind (some (dataFrame x a q p)) s = decodePayload kind (u.succeed (.str p)) ∧
      u.seq = s.seq + 1 ∧ u.cfg = s.cfg := by
  obtain ⟨tail, hissue⟩ := issueRequest_of_legal h
  have hload := loadRx_of_fits (l := dataFrame x a q p) (s := buildRequest r.token tail s) (rxFits_none _ _ hmax)
  have hparse := exec_parseRsp (s := (buildRequest r.token tail s).setRx (dataFrame x a q p))
    (parseResponse_dataFrame a q hx hp hpre)
  refine ⟨((buildRequest r.token tail s).setRx (dataFrame x a q p)).setCrc (checksum (x :: (hex2 a ++ hex4 q ++ p))), ?_,
    rfl, rfl⟩
  rw [runLogical_of_issued hissue rfl, deliver, hload, andThen_next, ifOk_of_ok rfl, hparse, andThen_next, finishParse]
  exact ifOk_of_ok rfl

/-! ### What the steps leave -/

/-- `SEQ` and `ADDR` stand in `t` as in `s`. -/
def CounterKept (s t : State) : Prop := t.seq = s.seq ∧ t.addr = s.addr

/-- Only `BUILD_*` and `SET_ADDR` write the two. -/
theorem counterKept_of_exec {i : Instr} (hbuild : buildLegal s.cfg i = none) (haddr : ∀ a, i ≠ .setAddr a)
    (h : exec i s = .next t) : CounterKept s t := by
  obtain ⟨-, -, ha, hq, -⟩ := registersHaveTheirWriters i s t h
  exact ⟨hq.resolve_right (by simp [builds, hbuild]), ha.resolve_right (haddr _)⟩

theorem counterKept_of_deliver (h : deliver reply s = .next t) : CounterKept s t := by
  cases reply with
  | none => cases h; exact ⟨rfl, rfl⟩
  | some l =>
    obtain ⟨-, rfl⟩ := loadRx_eq_next.1 h
    exact ⟨rfl, rfl⟩

theorem counterKept_of_decodePayload (h : decodePayload kind s = .next t) : CounterKept s t := by
  cases kind with
  | raw => cases h; exact ⟨rfl, rfl⟩
  | int32 => exact counterKept_of_exec (i := .decI32 (valueText s)) rfl nofun h
  | float32 => exact counterKept_of_exec (i := .decF32 (valueText s)) rfl nofun h

/-- A logical operation that ends `OK` has gone through all its steps, and has taken one sequence number. -/
theorem runLogical_ok (h : runLogical r kind reply s = .next t) (hok : t.result = .ok) :
    t.seq = s.seq + 1 ∧ t.addr = s.addr := by
  obtain ⟨s1, hissue, h⟩ := andThen_eq_next.1 h
  obtain ⟨hs1, h⟩ := ifOk_eq_next_ok h hok
  obtain ⟨s2, hdeliver, h⟩ := andThen_eq_next.1 h
  obtain ⟨-, h⟩ := ifOk_eq_next_ok h hok
  obtain ⟨s3, hparse, h⟩ := andThen_eq_next.1 h
  obtain ⟨-, hdecode⟩ := ifOk_eq_next_ok h hok
  obtain ⟨hq1, ha1⟩ := issueRequest_ok hissue hs1
  obtain ⟨hq2, ha2⟩ := counterKept_of_deliver hdeliver
  obtain ⟨hq3, ha3⟩ := counterKept_of_exec (i := .parseRsp) rfl nofun hparse
  obtain ⟨hq4, ha4⟩ := counterKept_of_decodePayload hdecode
  exact ⟨by rw [hq4, hq3, hq2, hq1], by rw [ha4, ha3, ha2, ha1]⟩

end

/-- Settles O52: the request has been built, and the timeout writes `RX` and `RESULT` only. -/
theorem timedOutOperationKeepsSequence : Obligations.TimedOutOperationKeepsSequence := by
  rintro r kind s ⟨op, hop, hr⟩
  have htok : r.token = op := by
    rcases hr with rfl | ⟨id, inst, rfl⟩ | ⟨id, inst, v, rfl⟩ <;> rfl
  obtain ⟨tail, e⟩ := runLogical_timeout (kind := kind) (htok ▸ hop)
  exact ⟨_, e, rfl, rfl, rfl, rfl, State.readValue_of_result_ne_ok nofun⟩

theorem marker_not_mem_hex8 (v : BitVec 32) : chPlus ∉ hex8 v :=
  all_bne_iff.1 (hexU_no_marker (hex8_all_isHexU v))

/-- Settles O53: the payload is the eight digits, which the decoder of either kind reads back. -/
theorem logicalReadDeliversValue : Obligations.LogicalReadDeliversValue := by
  intro op id inst v x a q s hop hmax hx hpre
  refine ⟨?_, ?_⟩
  · obtain ⟨u, e, hseq, -⟩ := runLogical_dataFrame (r := .read op id inst) (kind := .int32) a q hop hmax hx
      (marker_not_mem_hex8 v) hpre
    exact ⟨_, e.trans (exec_decI32_of_ok (digits32_hex8 v) _), State.readValue_succeed_u32 .., hseq⟩
  · obtain ⟨u, e, hseq, hcfg⟩ := runLogical_dataFrame (r := .read op id inst) (kind := .float32) a q hop hmax hx
      (marker_not_mem_hex8 (ordBytes s.cfg.floatOrder v)) hpre
    refine ⟨_, e.trans (exec_decF32_of_ok (digits32_hex8 _) _), ?_, hseq⟩
    rw [State.readValue_succeed_u32, State.succeed_cfg, hcfg, ordBytes_ordBytes]

/-! ### The connect sequence -/

/-- A connect sequence that ends `OK` has done its three logical operations. -/
theorem connectSequence_ok {a : BitVec 8} {w1 w2 : LogicalRequest} {op : Str} {r1 r2 r3 : Option Str} {s t : State}
    (h : connectSequence a w1 w2 op r1 r2 r3 s = .next t) (hok : t.result = .ok) : t.seq = s.seq + 3 ∧ t.addr = a := by
  obtain ⟨s0, hset, h⟩ := andThen_eq_next.1 h
  cases hset
  obtain ⟨s1, h1, h⟩ := andThen_eq_next.1 h
  obtain ⟨hs1, h⟩ := ifOk_eq_next_ok h hok
  obtain ⟨s2, h2, h⟩ := andThen_eq_next.1 h
  obtain ⟨hs2, h3⟩ := ifOk_eq_next_ok h hok
  obtain ⟨hq1, ha1⟩ := runLogical_ok h1 hs1
  obtain ⟨hq2, ha2⟩ := runLogical_ok h2 hs2
  obtain ⟨hq3, ha3⟩ := runLogical_ok h3 hok
  refine ⟨?_, by rw [ha3, ha2, ha1]; rfl⟩
  rw [hq3, hq2, hq1, BitVec.add_assoc, BitVec.add_assoc]
  rfl

/-- Settles O54: three requests from the state given, and from a block just reset, whose `SEQ` is 0. -/
theorem cleanConnectLeavesSeqThree : Obligations.CleanConnectLeavesSeqThree :=
  fun _ _ _ _ _ _ _ _ _ => ⟨connectSequence_ok, connectSequence_ok⟩

/-! ### The session -/

/-- A table that gives the three requests connects a disconnected session as the handshake goes (R147). -/
theorem sessionConnect_of_disconnected {t : Catalogue} {w1 w2 : LogicalRequest} {op : Str} {x : Session}
    (h1 : (t .disableFlashPersistence).request none = some w1) (h2 : (t .setRampStartPoint).request none = some w2)
    (hop : (t .identify).token = some op) (hx : x.phase = .disconnected) (a : BitVec 8) (handshake : Bool)
    (r1 r2 r3 : Option Str) :
    sessionConnect t a handshake r1 r2 r3 x =
      some (if handshake then inPhase .connected (connectSequence a w1 w2 op r1 r2 r3 (newSession x.block))
        else .next { phase := .disconnected, block := newSession x.block }) := by
  simp only [sessionConnect, hx, h1, h2, hop]

theorem sessionConnect_of_connected {x : Session} (hx : x.phase = .connected) (t : Catalogue) (a : BitVec 8)
    (handshake : Bool) (r1 r2 r3 : Option Str) : sessionConnect t a handshake r1 r2 r3 x = none := by
  simp only [sessionConnect, hx]

section
variable {t : Catalogue} {n : LogicalName} {v : Option (BitVec 32)} {reply : Option Str} {x y : Session}

/-- A named operation exists only while `Connected`, and leaves the session there (R114). -/
theorem sessionCall_connected {o : Host.Outcome Session Fault Refusal} (h : sessionCall t n v reply x = some o) :
    x.phase = .connected ∧ ∃ o', o = inPhase .connected o' := by
  obtain ⟨r, kind, -, -, h⟩ := sessionCall_eq_some.1 h
  rcases sessionLogical_cases x r kind reply with ⟨hx, e⟩ | ⟨-, e⟩
  · exact ⟨hx, _, (Option.some.inj (e.symm.trans h)).symm⟩
  · cases e.symm.trans h

theorem sessionCall_of_disconnected (hx : x.phase = .disconnected) : sessionCall t n v reply x = none := by
  rw [Option.eq_none_iff_forall_ne_some]
  intro o h
  cases hx.symm.trans (sessionCall_connected h).1

theorem phase_of_sessionCall (h : sessionCall t n v reply x = some (.next y)) :
    x.phase = .connected ∧ y.phase = .connected := by
  obtain ⟨hx, o, ho⟩ := sessionCall_connected h
  obtain ⟨s, -, rfl⟩ := inPhase_eq_next.1 ho.symm
  exact ⟨hx, rfl⟩

end

/-- Settles O56: what a connect does in each phase, and that a named operation exists in one of them only. -/
theorem sessionHasTwoPhases : Obligations.SessionHasTwoPhases := by
  refine ⟨fun t a w1 w2 op r1 r2 r3 x h1 h2 hop hx => ?_, fun t a h r1 r2 r3 x hx => ?_, fun t n v reply x => ?_,
    fun t n v reply x => ?_⟩
  · have hconnect := sessionConnect_of_disconnected h1 h2 hop hx a
    refine ⟨hconnect false r1 r2 r3, fun s hs => ?_⟩
    rw [hconnect true, hs]
    rfl
  · exact sessionConnect_of_connected hx t a h r1 r2 r3
  · exact ⟨sessionCall_of_disconnected, fun y => phase_of_sessionCall⟩
  · exact ⟨rfl, sessionCall_of_disconnected rfl⟩

/-- What R119 gives of the row of the stability state stands in every host's table. -/
theorem stabilityState_of_completes {t : Catalogue} (h : t.Completes) :
    (t .stabilityState).direction = .read ∧ (t .stabilityState).enumerated = true ∧
      (t .stabilityState).kind = some .int32 ∧ (t .stabilityState).token = some readToken := by
  have hrow := h .stabilityState
  simp only [CatalogueRow.completes, catalogue, keepsEntry, Bool.and_eq_true, decide_eq_true_eq] at hrow
  obtain ⟨⟨⟨⟨⟨⟨hdir, henum⟩, hkind⟩, htok⟩, -⟩, -⟩, -⟩ := hrow
  exact ⟨of_decide_eq_true hdir, of_decide_eq_true henum, hkind, htok⟩

/-- Settles O57: the row's request is an int32 read, which delivers the number, and the caller's answer is its status. -/
theorem stabilityReadIsEnumerated : Obligations.StabilityReadIsEnumerated := by
  intro t id inst v x a q y ht hid hinst hy hop hmax hx hpre
  obtain ⟨hdir, henum, hkind, htok⟩ := stabilityState_of_completes ht
  have hrequest : (t .stabilityState).request none = some (.read readToken id inst) := by
    simp only [CatalogueRow.request, hdir, htok, hid, hinst]
  have hanswer : (t .stabilityState).answerKind = some .int32 := by
    simp only [CatalogueRow.answerKind, hdir, hkind]
  obtain ⟨s, hrun, hval, hseq⟩ := (logicalReadDeliversValue readToken id inst v x a q y.block hop hmax hx hpre).1
  refine ⟨{ phase := .connected, block := s }, sessionCall_eq_some.2 ⟨_, _, hrequest, hanswer, ?_⟩, hseq, ?_⟩
  · simp only [sessionLogical, hy, hrun, inPhase_next]
  · simp only [sessionAnswer, hanswer, henum, answerOf, hval, int32Answer_enumerated, Option.map_some]

/-! ### The host's duties -/

/-- What an operation the duties allow is: the one `SET_ADDR`, or another row, which builds for an addressed device only. -/
theorem dutyOperation_cases {c : Config} {target : BitVec 8} {d d' : Duty} {i : Instr}
    (h : dutyOperation c target d i = some d') :
    (i = .setAddr target ∧ d.built = false) ∨
    ((∀ a, i ≠ .setAddr a) ∧ (builds c i = true → d.addressed = true ∨ c.addrReset = target) ∧
      d'.addressed = d.addressed ∧ (d.built = true → d'.built = true)) := by
  cases i with
  | setAddr a =>
    obtain ⟨rfl, -, hbuilt, -⟩ := dutySetAddr_eq_some.1 h
    exact .inl ⟨rfl, hbuilt⟩
  | buildBare | buildRead | buildWrite =>
    obtain ⟨haddressed, -, rfl⟩ := dutyBuild_eq_some.1 h
    exact .inr ⟨nofun, fun _ => haddressed, rfl, fun _ => rfl⟩
  | _ =>
    cases h
    exact .inr ⟨nofun, nofun, rfl, id⟩

/-- `DutyEffect target d s e d' t`: what an input `e` that the duties allow can do to where the host stands and to the block. -/
inductive DutyEffect (target : BitVec 8) (d : Duty) (s : State) : HostInput → Duty → State → Prop
  /-- A new session. -/
  | newSession : DutyEffect target d s .newSession Duty.fresh (newSession s)
  /-- `SET_ADDR`, before the first `BUILD_*` (R115). -/
  | setAddr {e : HostInput} {d' : Duty} (hbuilt : d.built = false) :
      DutyEffect target d s e d' ((s.setAddr target).succeed .none)
  /-- Anything else: it keeps `ADDR`, and if it builds a request the device has been addressed (R147 item 3). -/
  | other {e : HostInput} {d' : Duty} {t : State} (haddr : t.addr = s.addr) (hcfg : t.cfg = s.cfg)
      (haddressed : d'.addressed = d.addressed) (hbuilt : d.built = true → d'.built = true)
      (htx : t.tx = s.tx ∨ ((d.addressed = true ∨ s.cfg.addrReset = target) ∧ t.tx.take 3 = 0x23#8 :: hex2 s.addr)) :
      DutyEffect target d s e d' t

section
variable {target : BitVec 8} {d d' : Duty} {e : HostInput} {s t : State}

theorem dutyEffect_of_exec {i : Instr} (h : dutyOperation s.cfg target d i = some d') (ht : exec i s = .next t) :
    DutyEffect target d s e d' t := by
  rcases dutyOperation_cases h with ⟨rfl, hbuilt⟩ | ⟨hset, hbuilds, haddressed, hbuilt⟩
  · cases ht
    exact .setAddr hbuilt
  · obtain ⟨hcfg, -, haddr, -, -, -, htx, -⟩ := registersHaveTheirWriters i s t ht
    refine .other (haddr.resolve_right (hset _)) hcfg haddressed hbuilt (htx.imp_right fun hb => ⟨hbuilds hb, ?_⟩)
    obtain ⟨op, tail, -, -, hbuild⟩ := exec_of_builds hb
    cases hbuild.symm.trans ht
    exact take_three_request ..

/-- Every input the duties allow ends in one of the ways of `DutyEffect`. -/
theorem dutyEffect_of_takeInput (h : dutyInput s.cfg target d e = some d') (ht : takeInput e s = .next t) :
    DutyEffect target d s e d' t := by
  cases e with
  | word w =>
    cases w with
    | command c => exact dutyEffect_of_exec h ht
    | line l =>
      obtain ⟨haddressed, hbuilt⟩ := dutyReceive_keeps h
      obtain ⟨-, rfl⟩ := loadRx_eq_next.1 ((runWord_line l s).symm.trans ht)
      exact .other rfl rfl haddressed hbuilt.trans (.inl rfl)
  | timeout =>
    obtain ⟨haddressed, hbuilt⟩ := dutyReceive_keeps h
    cases ht
    exact .other rfl rfl haddressed hbuilt.trans (.inl rfl)
  | newSession =>
    cases h
    cases ht
    exact .newSession

end

/-- Settles O55: the one `SET_ADDR` comes before the first `BUILD_*`. -/
theorem dutifulHostKeepsAddress : Obligations.DutifulHostKeepsAddress := by
  intro target d d' e s t h hne hd ht
  cases dutyEffect_of_takeInput h ht with
  | newSession => exact absurd rfl hne
  | setAddr hbuilt => cases hd.symm.trans hbuilt
  | other haddr _ _ hbuilt _ => exact ⟨haddr, hbuilt hd⟩

/-- Settles O58: only a new session and `SET_ADDR` write `ADDR`, and both leave `TX` empty or as it was. -/
theorem dutifulRequestsCarryTarget : Obligations.DutifulRequestsCarryTarget := by
  intro target d d' e s t hs h ht
  cases dutyEffect_of_takeInput h ht with
  | newSession => exact ⟨fun haddr => haddr.resolve_left nofun, .inr (.inl rfl)⟩
  | setAddr => exact ⟨fun _ => rfl, .inl rfl⟩
  | other haddr hcfg haddressed _ htx =>
    rw [haddr, hcfg, haddressed]
    exact ⟨hs, htx.imp_right fun ⟨hdevice, htake⟩ => .inr (hs hdevice ▸ htake)⟩

end Sys2Proof.Machine

/-! PROOFS. The outcomes (60_exceptions.md): which rows end with which, what a failure leaves, that none is sticky; the
timeout; every step answers, and every host program runs to its end. -/

namespace Sys2Proof.Machine

open Safety

/-! ### The outcome of each row (R135) -/

theorem resultCode_finishDecode (r : Except DigitsFault (BitVec 32)) (s : State) :
    resultCode (finishDecode r s).result = 0 ∨ resultCode (finishDecode r s).result = 4 := by
  rcases finishDecode_cases r s with ⟨v, -, e⟩ | ⟨f, -, e⟩ <;> rw [e]
  · exact .inl rfl
  · cases f <;> exact .inr rfl

theorem resultCode_finishParse_le (r : Parsed) (s : State) : resultCode (finishParse r s).result ≤ 3 := by
  cases r <;> simp [finishParse, resultCode]

theorem resultCode_of_buildLegal {i : Instr} {s t : State} {legal : Bool} (hb : buildLegal s.cfg i = some legal)
    (h : exec i s = .next t) : resultCode t.result = 0 ∨ resultCode t.result = 6 := by
  obtain ⟨op, tail, r, e⟩ := exec_of_buildLegal hb
  cases (e s rfl).symm.trans h
  cases legal
  · exact .inr rfl
  · exact .inl rfl

theorem decStatus_of_le_two {v : BitVec 32} (h : v.toNat ≤ 2) : ∃ x, decStatus v = .ok x := by
  have hv : v = 0 ∨ v = 1 ∨ v = 2 := by bv_omega
  rcases hv with rfl | rfl | rfl <;> exact ⟨_, rfl⟩

theorem decStatus_of_two_lt {v : BitVec 32} (h : 2 < v.toNat) : decStatus v = .error .unknownStatus :=
  decStatus_of_unknown (by bv_omega) (by bv_omega) (by bv_omega)

/-- Settles O34, row by row. -/
theorem outcomesFollowMatrix : Obligations.OutcomesFollowMatrix := by
  refine ⟨fun i s t h => ?_, fun s t h => ?_, fun v => decStatus_of_le_two,
    fun v hv => ⟨_, decStatus_of_two_lt hv, rfl⟩⟩
  · cases i with
    | decI32 | decF32 => cases h; exact resultCode_finishDecode _ s
    | buildBare | buildRead | buildWrite => exact resultCode_of_buildLegal rfl h
    | parseRsp => cases h; exact resultCode_finishParse_le _ s
    | reqBare | reqRead | reqWrite | rspData | rspError => trivial
    | _ => cases h; rfl
  · cases h
    rfl

/-! ### What a failure leaves (R137) -/

/-- Settles O35: of the ways of ending without `OK` one writes `CRC` and one `ERRCODE`. -/
theorem failureLeavesTheRest : Obligations.FailureLeavesTheRest := by
  refine ⟨fun c s t h hne => ?_, fun _ => rfl⟩
  obtain ⟨w, hw⟩ := encode_decodeCommand c
  generalize decodeCommand c = i at h hw
  cases effect_of_exec h with
  | load hl _ => cases hw.symm.trans hl
  | badDigits f _ => cases f <;> exact ⟨rfl, (absurd rfl ·), (absurd rfl ·), nofun⟩
  | refuse | framing => exact ⟨rfl, (absurd rfl ·), (absurd rfl ·), nofun⟩
  | device => exact ⟨rfl, (absurd rfl ·), fun _ => rfl, nofun⟩
  | mismatch => exact ⟨rfl, fun _ => rfl, (absurd rfl ·), fun _ => rfl⟩
  | build | setAddr | setCrc | answer | payload => exact absurd rfl hne

/-! ### No outcome is sticky (R138) -/

/-- The state with other contents of the three registers in which an operation leaves its outcome. -/
def State.withOutcome (s : State) (r : Result) (e : BitVec 4) (v : Value) : State :=
  { s with result := r, errcode := e, value := v }

/-- `u` is `t` but for a stored `ERRCODE` or `VALUE` that cannot be read under their outcome (R15, R16). -/
def SameReading (t u : State) : Prop :=
  ∃ e v, u = { t with errcode := e, value := v } ∧ (t.result = .ok → v = t.value) ∧
    (t.result = .deviceError → e = t.errcode)

section
variable {i : Instr} {s t u : State}

theorem SameReading.readValue_eq (h : SameReading t u) : u.readValue = t.readValue := by
  obtain ⟨e, v, rfl, hv, -⟩ := h
  by_cases hok : t.result = .ok
  · obtain rfl := hv hok
    rfl
  · rw [State.readValue_of_result_ne_ok hok]
    exact State.readValue_of_result_ne_ok hok

theorem SameReading.readErrcode_eq (h : SameReading t u) : u.readErrcode = t.readErrcode := by
  obtain ⟨e, v, rfl, -, he⟩ := h
  refine Option.ext fun x => ?_
  rw [State.readErrcode_eq_some, State.readErrcode_eq_some]
  exact and_congr_right fun hdev => by rw [he hdev]

theorem sameReading_of_ok (h : t.result = .ok) (e : BitVec 4) : SameReading t { t with errcode := e } :=
  ⟨e, t.value, rfl, fun _ => rfl, by simp [h]⟩

theorem sameReading_of_deviceError (h : t.result = .deviceError) (v : Value) : SameReading t { t with value := v } :=
  ⟨t.errcode, v, rfl, by simp [h], fun _ => rfl⟩

/-- Under any other outcome than `OK` and `DeviceError` neither of the two is read. -/
theorem sameReading_of_unread (hok : t.result ≠ .ok) (hdev : t.result ≠ .deviceError) (e : BitVec 4) (v : Value) :
    SameReading t { t with errcode := e, value := v } :=
  ⟨e, v, rfl, (absurd · hok), (absurd · hdev)⟩

variable (r : Result) (e : BitVec 4) (v : Value)

theorem sameReading_finishDecode (d : Except DigitsFault (BitVec 32)) (s : State) :
    SameReading (finishDecode d s) (finishDecode d (s.withOutcome r e v)) := by
  cases d with
  | ok x => exact sameReading_of_ok rfl e
  | error f => cases f <;> exact sameReading_of_unread (by nofun) (by nofun) e v

theorem sameReading_finishParse (p : Parsed) (s : State) :
    SameReading (finishParse p s) (finishParse p (s.withOutcome r e v)) := by
  cases p with
  | framing | mismatch => exact sameReading_of_unread (by nofun) (by nofun) e v
  | device => exact sameReading_of_deviceError rfl v
  | payload => exact sameReading_of_ok rfl e

theorem exec_withOutcome_of_buildLegal {legal : Bool} (hb : buildLegal s.cfg i = some legal) (h : exec i s = .next t) :
    ∃ u, exec i (s.withOutcome r e v) = .next u ∧ SameReading t u := by
  obtain ⟨op, tail, q, hexec⟩ := exec_of_buildLegal hb
  cases (hexec s rfl).symm.trans h
  refine ⟨_, hexec (s.withOutcome r e v) rfl, ?_⟩
  cases legal
  · exact sameReading_of_unread (by nofun) (by nofun) e v
  · exact sameReading_of_ok rfl e

/-- No operation reads what an earlier one left in the three registers. -/
theorem exec_withOutcome {w : Command} (hi : encode i = .command w) (h : exec i s = .next t) :
    ∃ u, exec i (s.withOutcome r e v) = .next u ∧ SameReading t u := by
  cases i with
  | crcClr | crcUpd | checksum | setAddr | crcRd | encU8 | encU16 | encI32 | encF32 =>
    cases h
    exact ⟨_, rfl, sameReading_of_ok rfl e⟩
  | decI32 | decF32 => cases h; exact ⟨_, rfl, sameReading_finishDecode r e v _ s⟩
  | buildBare | buildRead | buildWrite => exact exec_withOutcome_of_buildLegal r e v rfl h
  | parseRsp => cases h; exact ⟨_, rfl, sameReading_finishParse r e v _ s⟩
  | reservedF => cases h; exact ⟨_, rfl, sameReading_of_unread (by nofun) (by nofun) e v⟩
  | reqBare | reqRead | reqWrite | rspData | rspError => cases hi

end

/-- Settles O36: the two runs leave states with the same readings. -/
theorem noOutcomeIsSticky : Obligations.NoOutcomeIsSticky := by
  intro c r e v s t h
  obtain ⟨w, hw⟩ := encode_decodeCommand c
  obtain ⟨u, hu, hread⟩ := exec_withOutcome r e v hw h
  refine ⟨u, hu, ?_⟩
  have hvalue := hread.readValue_eq
  have herrcode := hread.readErrcode_eq
  obtain ⟨e', v', rfl, -⟩ := hread
  exact ⟨rfl, rfl, rfl, rfl, rfl, rfl, hvalue, herrcode⟩

/-! ### The timeout, and every step -/

/-- Settles O38: what is left in `RX` is too short for a response. -/
theorem timeoutThenShort : Obligations.TimeoutThenShort := by
  intro s rest hin
  have hstep : step s = .next { s with rx := [], result := .transportTimeout, inputs := rest } :=
    step_of_inputs_cons hin
  refine ⟨hstep, ?_⟩
  rw [hstep, andThen_next]
  exact parseShortIsFramingError _ (by decide : 0 < 11)

section
variable {s t : State}

theorem exec_next_of_buildLegal {i : Instr} {legal : Bool} (hb : buildLegal s.cfg i = some legal) :
    ∃ t, exec i s = .next t := by
  obtain ⟨op, tail, r, e⟩ := exec_of_buildLegal hb
  exact ⟨_, e s rfl⟩

/-- Every instruction answers a next state while `RX_MAX` is unbounded. -/
theorem exec_next (i : Instr) (h : s.cfg.rxMax = none) : ∃ t, exec i s = .next t := by
  cases i with
  | buildBare | buildRead | buildWrite => exact exec_next_of_buildLegal rfl
  | reqBare | reqRead | reqWrite | rspData | rspError => exact ⟨_, loadRx_of_fits (rxFits_none _ _ h)⟩
  | _ => exact ⟨_, rfl⟩

/-- Every input is taken while `RX_MAX` is unbounded, and leaves the later inputs and the parameters alone. -/
theorem takeInput_next (e : HostInput) (h : s.cfg.rxMax = none) :
    ∃ t, takeInput e s = .next t ∧ t.inputs = s.inputs ∧ t.cfg = s.cfg := by
  cases e with
  | word w =>
    cases w with
    | command c =>
      obtain ⟨t, ht⟩ := exec_next (decodeCommand c) h
      obtain ⟨hcfg, hinputs, -⟩ := registersHaveTheirWriters _ s t ht
      exact ⟨t, ht, hinputs, hcfg⟩
    | line l => exact ⟨_, (runWord_line l s).trans (loadRx_of_fits (rxFits_none _ _ h)), rfl, rfl⟩
  | timeout | newSession => exact ⟨_, rfl, rfl, rfl⟩

/-- A run whose first step answers goes on from there. -/
theorem run_succ_of_step (h : step s = .next t) (k : Nat) : core.run (k + 1) s = core.run k t := by
  have hcore : core.step s = .next t := h
  simp only [Host.Core.run, hcore]

end

/-- Settles O59: an idle step changes nothing, any other takes the oldest input. -/
theorem everyStepTakesOneInput : Obligations.EveryStepTakesOneInput := by
  intro s h
  cases hin : s.inputs with
  | nil => exact ⟨s, by simp [step, hin], hin, rfl⟩
  | cons e rest =>
    obtain ⟨t, ht, hinputs, hcfg⟩ := takeInput_next (s := s.setInputs rest) e h
    exact ⟨t, (step_of_inputs_cons hin).trans ht, hinputs, hcfg⟩

/-- Settles O45, by induction on the list of inputs: each step leaves its tail. -/
theorem everyHostProgramRunsToItsEnd : Obligations.EveryHostProgramRunsToItsEnd := by
  intro s h
  induction hin : s.inputs generalizing s with
  | nil => exact ⟨s, rfl, hin, rfl⟩
  | cons e rest ih =>
    obtain ⟨u, hu, hinputs, hucfg⟩ := everyStepTakesOneInput s h
    rw [hin] at hinputs
    obtain ⟨t, hrun, htinputs, htcfg⟩ := ih u (hucfg ▸ h) hinputs
    exact ⟨t, (run_succ_of_step hu _).trans hrun, htinputs, htcfg.trans hucfg⟩

end Sys2Proof.Machine

/-! PROOFS. Reset and hazards (70_reset_and_hazards.md): a new session as an input, and the step of an idle block. -/

namespace Sys2Proof.Machine

/-! ### A new session (R146) -/

/-- Of the state before it a new session keeps the parameters and the pending inputs, nothing else. -/
theorem newSession_setInputs (s : State) (rest : List HostInput) :
    newSession (s.setInputs rest) = { State.ofConfig s.cfg with inputs := rest } := rfl

/-- Settles O42: the step takes the new session off the inputs before it resets, so the later ones are what it keeps. -/
theorem newSessionResets : Obligations.NewSessionResets := by
  intro s rest hin
  calc step s
    _ = takeInput .newSession (s.setInputs rest) := step_of_inputs_cons hin
    _ = .next (newSession (s.setInputs rest)) := rfl
    _ = .next { State.ofConfig s.cfg with inputs := rest } := by rw [newSession_setInputs]

/-! ### The idle block (R160) -/

/-- A step with no input pending. -/
theorem step_of_inputs_nil {s : State} (h : s.inputs = []) : step s = .next s := by
  simp [step, h]

/-- Settles O43. -/
theorem idleBlockIsUnchanged : Obligations.IdleBlockIsUnchanged :=
  fun _ => step_of_inputs_nil

end Sys2Proof.Machine

/-! PROOFS. The receive line at its bounds (20_memory.md R30): a string over a configured `RX_MAX`, and the five frame rows as
the loads of their characters. -/

namespace Sys2Proof.Machine

/-! ### A string over `RX_MAX` -/

/-- The load of a string that does not fit. -/
theorem loadRx_of_not_fits {l : Str} {s : State} (h : rxFits s.cfg l.length = false) :
    loadRx l s = .refused .rxOverlong := by
  simp [loadRx, h]

/-- Settles O40: the load refuses the string, frame or not (`runWord_line`). -/
theorem overlongStringIsRefused : Obligations.OverlongStringIsRefused := by
  intro s l m rest hin hm hlen
  have hfit : rxFits s.cfg l.length = false := by simpa [hm] using hlen
  rw [step_of_inputs_cons hin]
  exact (runWord_line l _).trans (loadRx_of_not_fits hfit)

/-! ### The frame rows -/

/-- The load of a frame, with its body as the rules of its form write it (R48, R49). -/
theorem loadRx_withChecksum_of_body {s : State} {b body : Str} (h : s.cfg.rxMax = none) (hb : b = body) :
    loadRx (withChecksum b) s = .next { s with rx := body ++ hex4 (checksum body) } :=
  hb ▸ loadRx_of_fits (rxFits_none _ _ h)

/-- The digit character of a number below ten. -/
theorem hexChar_ofNat_of_lt_ten : ∀ {d : Nat}, d < 10 → hexChar (BitVec.ofNat 4 d) = BitVec.ofNat 8 (0x30 + d) := by
  decide

/-- An error frame with the two digits of a code below ten (R50). -/
theorem errorFrame_of_lt_ten {d : Nat} (before after : Str) (hd : d < 10) :
    errorFrame before (BitVec.ofNat 4 d) after = before ++ [0x2B#8, 0x30#8, BitVec.ofNat 8 (0x30 + d)] ++ after := by
  simp [errorFrame, hexChar_ofNat_of_lt_ten hd, chPlus, ch0]

/-- Settles O41: a request and a data response are their body with its checksum field, an error frame has none. -/
theorem frameRowsLoadTheirCharacters : Obligations.FrameRowsLoadTheirCharacters := by
  intro s h
  refine ⟨fun a q op => ?bare, fun a q op id inst => ?read, fun a q op id inst val => ?write, fun x a q p => ?data,
    fun before after d hd => ?error⟩
  case bare => exact loadRx_withChecksum_of_body h (by simp [requestBody, bareTail, Config.reqPreamble])
  case read => exact loadRx_withChecksum_of_body h (by simp [requestBody, readTail, Config.reqPreamble])
  case write => exact loadRx_withChecksum_of_body h (by simp [requestBody, writeTail, Config.reqPreamble])
  case data => exact loadRx_withChecksum_of_body h rfl
  case error =>
    rw [← errorFrame_of_lt_ten before after hd]
    exact loadRx_of_fits (rxFits_none _ _ h)

end Sys2Proof.Machine
